-- ==== Sys2Proof/Word.lean ====
section
/-! DEFINITION. The two word types of the machine: 8-bit bytes and 16-bit words (spec 00_scope.md R4, R5). -/

namespace Sys2Proof

/-- An 8-bit value: a register, a memory byte, an opcode byte, an immediate (R4, R5). -/
abbrev Byte := BitVec 8

/-- A 16-bit value: an address, SP, PC, a register pair (R4, R5). -/
abbrev Word := BitVec 16

end Sys2Proof
end

