-- ==== Sys2Proof/Config.lean ====
section
/-! DEFINITION. What an implementation or its environment fixes (spec 00_scope.md R4, 92_eei_decisions.md), and the bus of an
environment that the spec leaves to it, an opaque constant. The parameters' values in force are fields of State. -/

namespace Sys2Proof

/-- P_ROM_WRITE (20_memory.md R66, R67; 92_eei_decisions.md D12, OPEN): what the reference bus does with a write to
0x0000..0x7FFF. The value in force stands in State's bus (assumption 2). -/
inductive RomWrite where
  /-- the write is delivered and changes nothing (the reference value) -/
  | ignore
  /-- the byte is kept -/
  | store
deriving DecidableEq, Repr

/-- One bus transaction (20_memory.md R51, R57): a read of `v` at `addr`, or a write of `v` to `addr`. -/
inductive Machine.BusEvent where
  | read (addr : Word) (v : Byte)
  | write (addr : Word) (v : Byte)
deriving DecidableEq, Repr

/-- What can reach a bus and change its state: a transaction of the core (R51), or a change by the host between two steps
(20_memory.md R69), the bytes it stores. -/
inductive Machine.BusInput where
  | transaction (ev : Machine.BusEvent)
  | hostChange (cells : List (Word × Byte))
deriving DecidableEq, Repr

/-- What a bus other than the reference one answers to a read of `addr` after these inputs, oldest first: P_BUS is any
implementation of the bus contract over some bus state (20_memory.md R51, 92_eei_decisions.md D12), and what a bus
answers is a function of what has reached it. No body: nothing is known of any of these buses (assumption 1). -/
opaque Config.otherBus (id : Nat) (inputs : List Machine.BusInput) (addr : Word) : Byte

/-- First address of the flat read/write store; below it stands the cartridge (20_memory.md R52, R66). -/
def Config.cartridgeEnd : Nat := 0x8000

/-- Number of addresses of the one address space (20_memory.md R50). -/
def Config.addressCount : Nat := 0x10000

/-- What a memory byte that is not listed reads as. DESIGN CHOICE, unsafe (assumption 3): the spec gives no contents
of memory at reset (70_reset_and_hazards.md R293; 93_implementation_defined.md U8). -/
def Config.unlistedByte : Byte := 0x00

/-- P_ROM_WRITE right after reset. DESIGN CHOICE, unsafe (assumption 2): the spec's reference value (D12). -/
def Config.romWriteAtReset : RomWrite := .ignore

/-- The escape code of the extended table (30_encoding.md R94). -/
def Config.escapeCode : Byte := 0xCB

/-- What a halted step returns (70_reset_and_hazards.md R300). -/
def Config.haltedCycles : Nat := 4

end Sys2Proof
end

