-- ==== Sys2Proof/Machine/Bits.lean ====
section
/-! DEFINITION. Bit fields, byte order and sign extension: the helpers that decoding and the meanings share
(spec 00_scope.md R5, 30_encoding.md R81 to R85). -/

namespace Sys2Proof.Machine

/-- `hi ++ lo` (R5): two bytes as a word, `hi` in bits 15..8. -/
def joinBytes (hi lo : Byte) : Word := hi ++ lo

/-- `w[15:8]` (R5). -/
def hiByte (w : Word) : Byte := w.extractLsb' 8 8

/-- `w[7:0]` (R5). -/
def loByte (w : Word) : Byte := w.extractLsb' 0 8

/-- `sext_16` (R5): the byte itself below 0x80, else the byte plus 0xFF00. -/
def sext16 (v : Byte) : Word := v.signExtend 16

/-- `zext_16` (R5). -/
def zext16 (v : Byte) : Word := v.setWidth 16

/-- A flag as a bit in position 0 of a byte (R5: true is 1, false is 0). -/
def boolByte (q : Bool) : Byte := if q then 1 else 0

/-- Field `x = op[7:6]`, the quadrant (30_encoding.md R81). -/
def fieldX (op : Byte) : Fin 4 := ⟨op.toNat / 64, by have := op.isLt; omega⟩

/-- Field `y = op[5:3]` (30_encoding.md R81). -/
def fieldY (op : Byte) : Fin 8 := ⟨op.toNat / 8 % 8, Nat.mod_lt _ (by decide)⟩

/-- Field `z = op[2:0]` (30_encoding.md R81). -/
def fieldZ (op : Byte) : Fin 8 := ⟨op.toNat % 8, Nat.mod_lt _ (by decide)⟩

end Sys2Proof.Machine
end

