-- ==== Sys2Proof/WellFormed.lean ====
section
/-! DEFINITION. Which terms of `Instr` are the decoding of some bytes. Every immediate has exactly its field's width and
every selector value is assigned (spec 10_state.md R39), so only two constructors need a check. -/

namespace Sys2Proof

/-- The eleven undefined primary opcodes (30_encoding.md R100). -/
def undefinedOpcodes : List Byte :=
  [0xD3, 0xDB, 0xDD, 0xE3, 0xE4, 0xEB, 0xEC, 0xED, 0xF4, 0xFC, 0xFD]

/-- An instruction is well-formed when some bytes decode to it: `undefined` holds one of the eleven bytes (R100), and
`prefixCb` is never decoded, since the 256 extended rows stand for its words (R105). -/
def wellFormed (i : Instr) : Bool :=
  match i with
  | .undefined op => undefinedOpcodes.contains op
  | .prefixCb _ => false
  | _ => true

end Sys2Proof
end

