-- ==== Sys2Proof/Machine/CycleTable.lean ====
section
/-! DEFINITION. The parameter P_CYCLES and its default values (spec 70_reset_and_hazards.md R298, R299; 30_encoding.md R107;
assumption 8). -/

namespace Sys2Proof.Machine

/-- P_CYCLES (R298): two tables of natural numbers, by the first opcode byte and by the extended one. -/
structure CycleTable where
  primary : Vector Nat 256
  extended : Vector Nat 256
deriving DecidableEq, Repr

/-- `P_CYCLES.primary[op]` (42_dispatch_system.md R150). -/
def CycleTable.primaryCost (table : CycleTable) (op : Byte) : Nat := table.primary[op.toNat]'op.isLt

/-- `P_CYCLES.extended[op2]` (42_dispatch_system.md R150). -/
def CycleTable.extendedCost (table : CycleTable) (op2 : Byte) : Nat := table.extended[op2.toNat]'op2.isLt

/-- The default of `P_CYCLES.primary` (R298), 16 opcode bytes a row; 0 stands at the escape and at the undefined bytes,
which have no cost. -/
def defaultPrimaryCycles : List Nat :=
  ([4, 12, 8, 8, 4, 4, 8, 4, 20, 8, 8, 8, 4, 4, 8, 4] : List Nat) ++
  [4, 12, 8, 8, 4, 4, 8, 4, 12, 8, 8, 8, 4, 4, 8, 4] ++
  [8, 12, 8, 8, 4, 4, 8, 4, 8, 8, 8, 8, 4, 4, 8, 4] ++
  [8, 12, 8, 8, 12, 12, 12, 4, 8, 8, 8, 8, 4, 4, 8, 4] ++
  [4, 4, 4, 4, 4, 4, 8, 4, 4, 4, 4, 4, 4, 4, 8, 4] ++
  [4, 4, 4, 4, 4, 4, 8, 4, 4, 4, 4, 4, 4, 4, 8, 4] ++
  [4, 4, 4, 4, 4, 4, 8, 4, 4, 4, 4, 4, 4, 4, 8, 4] ++
  [8, 8, 8, 8, 8, 8, 4, 8, 4, 4, 4, 4, 4, 4, 8, 4] ++
  [4, 4, 4, 4, 4, 4, 8, 4, 4, 4, 4, 4, 4, 4, 8, 4] ++
  [4, 4, 4, 4, 4, 4, 8, 4, 4, 4, 4, 4, 4, 4, 8, 4] ++
  [4, 4, 4, 4, 4, 4, 8, 4, 4, 4, 4, 4, 4, 4, 8, 4] ++
  [4, 4, 4, 4, 4, 4, 8, 4, 4, 4, 4, 4, 4, 4, 8, 4] ++
  [8, 12, 12, 16, 12, 16, 8, 16, 8, 16, 12, 0, 12, 24, 8, 16] ++
  [8, 12, 12, 0, 12, 16, 8, 16, 8, 16, 12, 0, 12, 0, 8, 16] ++
  [12, 12, 8, 0, 0, 16, 8, 16, 16, 4, 16, 0, 0, 0, 8, 16] ++
  [12, 12, 8, 4, 0, 16, 8, 16, 12, 8, 16, 4, 0, 0, 8, 16]

/-- The default of `P_CYCLES.extended` (R298), both bytes together: 8 a row, one row per rotate kind, then per bit of BIT
(x = 1), of RES and of SET; the seventh of a row is the (HL) form. -/
def defaultExtendedCycles : List Nat :=
  (List.replicate 8 [8, 8, 8, 8, 8, 8, 16, 8]).flatten ++ (List.replicate 8 [8, 8, 8, 8, 8, 8, 12, 8]).flatten ++
    (List.replicate 16 [8, 8, 8, 8, 8, 8, 16, 8]).flatten

set_option maxRecDepth 2000 in
theorem length_defaultPrimaryCycles : defaultPrimaryCycles.length = 256 := rfl

set_option maxRecDepth 2000 in
theorem length_defaultExtendedCycles : defaultExtendedCycles.length = 256 := rfl

/-- P_CYCLES at its default values. -/
def defaultCycles : CycleTable :=
  { primary := ⟨defaultPrimaryCycles.toArray, length_defaultPrimaryCycles⟩
    extended := ⟨defaultExtendedCycles.toArray, length_defaultExtendedCycles⟩ }

end Sys2Proof.Machine
end

