-- ==== Sys2Proof/Machine/State.lean ====
section
/-! DEFINITION. The machine's state as plain data (spec 10_state.md R20; 20_memory.md R66 for the bus's store), the
reasons a step can stop, and the state right after reset. -/

namespace Sys2Proof.Machine

/-- The reference bus's store (20_memory.md R50, R66): addresses strictly rising and below 65536, and no entry equal to
`Config.unlistedByte`, which an unlisted address reads as (the form is `Memory.wf` of Machine/Ops.lean). -/
abbrev Memory := List Host.Cell

/-- P_BUS with its bus state (20_memory.md R51; 92_eei_decisions.md D12; assumption 1): the reference bus FlatBus (R66),
which is its write policy and its store; or any other implementation of the bus contract, named by a number, whose
state is what has reached it, oldest first. -/
inductive Bus where
  | flat (romWrite : RomWrite) (mem : Memory)
  | other (id : Nat) (inputs : List BusInput)
deriving DecidableEq, Repr

/-- What a step returns (00_scope.md R10); `notStepped` before the first step. -/
inductive StepResult where
  | notStepped
  | ok (cycles : Nat)
  | decodeFault (opcode : Byte) (addr : Word)
deriving DecidableEq, Repr

/-- The machine's state. `a` to `pc`: the registers (R21, R23, R24, R25). `halted`, `ime`, `faulted`: R26, R27, R40.
The parameters the machine takes (00_scope.md R4): `bus` is P_BUS, with P_ROM_WRITE and the bus's state; `cycles` is
P_CYCLES; `hostWrites` is P_HOST_WRITES, the bytes the host stores before each of the coming steps, nothing once the
list is at its end (20_memory.md R69; assumption 4). `result`, `busLog`: the model's own output fields, what the last
step returned and the transactions it made, oldest first; no rule reads them (assumption 6). -/
structure State where
  a : Byte
  f : Byte
  b : Byte
  c : Byte
  d : Byte
  e : Byte
  h : Byte
  l : Byte
  sp : Word
  pc : Word
  halted : Bool
  ime : Bool
  faulted : Bool
  bus : Bus
  cycles : CycleTable
  hostWrites : List (List (Word × Byte))
  result : StepResult
  busLog : List BusEvent
deriving DecidableEq, Repr

/-- Why the machine stops. -/
inductive Fault where
  /-- Raised by `step` when a decode fault has been raised before: the core is stuck and has no next state until reset
  (10_state.md R40; 60_exceptions.md R283). Safe: the machine stops where the spec gives no successor. -/
  | stuckAfterDecodeFault
deriving DecidableEq, Repr

/-- Why an instruction has no meaning. -/
inductive Refusal where
  /-- Raised by an arm of `exec` whose instruction has no meaning yet; no arm raises it. Safe. -/
  | notModelled (mnemonic : String)
  /-- Raised by `step` if the bytes it fetched end before the instruction does; it fetches all of them, so no state
  raises it. Safe. -/
  | undecodable
deriving DecidableEq, Repr

/-- What executing an instruction, or a step, ends in. -/
abbrev Outcome := Host.Outcome State Fault Refusal

/-- The machine right after reset (10_state.md R34, R35; 70_reset_and_hazards.md R290, R292), on the reference bus with
nothing in memory (assumptions 1, 3) under the reference P_ROM_WRITE (assumption 2), with the default P_CYCLES
(assumption 8), the reference P_HOST_WRITES (assumption 4) and no step taken (assumption 6). -/
def State.reset : State :=
  { a := 0x01, f := 0xB0, b := 0x00, c := 0x13, d := 0x00, e := 0xD8, h := 0x01, l := 0x4D,
    sp := 0xFFFE, pc := 0x0100, halted := false, ime := false, faulted := false,
    bus := .flat Config.romWriteAtReset [], cycles := defaultCycles, hostWrites := [],
    result := .notStepped, busLog := [] }

end Sys2Proof.Machine
end

