-- ==== Sys2Proof/Machine/Ops.lean ====
section
/-! DEFINITION. The named operations over memory, the bus, the registers, the stack and the decode fault that every
meaning shares (spec 00_scope.md R7 to R9; 10_state.md R22; 20_memory.md R51 to R66; 60_exceptions.md R270, R275). -/

namespace Sys2Proof.Machine

/-- The byte at an address of the store. -/
def Memory.read (m : Memory) (addr : Nat) : Byte :=
  match m with
  | [] => Config.unlistedByte
  | (x, v) :: rest => if x = addr then v else Memory.read rest addr

/-- Drop every entry of an address. -/
def Memory.erase (m : Memory) (addr : Nat) : Memory := m.filter fun x => decide (x.1 ≠ addr)

/-- Put a cell before the first entry of a higher address. -/
def Memory.insert (addr : Nat) (v : Byte) (m : Memory) : Memory :=
  match m with
  | [] => [(addr, v)]
  | (x, w) :: rest => if addr < x then (addr, v) :: (x, w) :: rest else (x, w) :: Memory.insert addr v rest

/-- Store a byte, keeping the canonical form; a byte that an unlisted address reads as is not listed. -/
def Memory.write (m : Memory) (addr : Nat) (v : Byte) : Memory :=
  if v = Config.unlistedByte then Memory.erase m addr else Memory.insert addr v (Memory.erase m addr)

/-- Canonical from address `lo` on: addresses rise strictly from at least `lo`, stay in the address space, and no entry
holds what an unlisted address reads as. -/
def Memory.wfFrom (lo : Nat) (m : Memory) : Bool :=
  match m with
  | [] => true
  | (x, v) :: rest =>
    decide (lo ≤ x) && decide (x < Config.addressCount) && decide (v ≠ Config.unlistedByte) &&
      Memory.wfFrom (x + 1) rest

/-- The canonical form of the store. -/
def Memory.wf (m : Memory) : Bool := Memory.wfFrom 0 m

/-- Store bytes from outside the core, in order: no transaction, so no write policy applies. -/
def Memory.store (m : Memory) (cells : List (Word × Byte)) : Memory :=
  match cells with
  | [] => m
  | (addr, v) :: rest => Memory.store (Memory.write m addr.toNat v) rest

/-- Whether the reference bus keeps a write to this address (20_memory.md R66): always at or above 0x8000, below it only
under `store`. -/
def keepsWrite (policy : RomWrite) (addr : Word) : Bool :=
  decide (Config.cartridgeEnd ≤ addr.toNat) || decide (policy = .store)

/-- What a bus answers to a read now: FlatBus its store's byte (R66), another bus whatever it answers (R51). -/
def Bus.answer (b : Bus) (addr : Word) : Byte :=
  match b with
  | .flat _ m => Memory.read m addr.toNat
  | .other id inputs => Config.otherBus id inputs addr

/-- A bus after one transaction: FlatBus keeps a write or not and a read changes nothing (R66); another bus may change by
either (R59). -/
def Bus.afterEvent (b : Bus) (ev : BusEvent) : Bus :=
  match b, ev with
  | .flat policy m, .read _ _ => .flat policy m
  | .flat policy m, .write addr v => .flat policy (if keepsWrite policy addr then Memory.write m addr.toNat v else m)
  | .other id inputs, ev => .other id (inputs ++ [.transaction ev])

/-- A bus after a list of transactions, oldest first (20_memory.md R57). -/
def Bus.after (b : Bus) (log : List BusEvent) : Bus :=
  match log with
  | [] => b
  | ev :: rest => (b.afterEvent ev).after rest

/-- A bus after a change by the host between two steps (20_memory.md R69); no bytes, no change. -/
def Bus.hostChange (b : Bus) (cells : List (Word × Byte)) : Bus :=
  match b, cells with
  | b, [] => b
  | .flat policy m, cell :: rest => .flat policy (Memory.store m (cell :: rest))
  | .other id inputs, cell :: rest => .other id (inputs ++ [.hostChange (cell :: rest)])

/-- The store of the reference bus is in its canonical form. -/
def Bus.wf (b : Bus) : Bool :=
  match b with
  | .flat _ m => Memory.wf m
  | .other _ _ => true

/-- What the bus would answer to a read of this address. -/
def State.byteAt (s : State) (addr : Word) : Byte := s.bus.answer addr

/-- Bus transactions, oldest first: the bus is as they leave it, and they are recorded (R57). -/
def State.transact (s : State) (log : List BusEvent) : State :=
  { s with bus := s.bus.after log, busLog := s.busLog ++ log }

/-- The state once the byte at this address has been read. -/
def State.readAt (s : State) (addr : Word) : State := s.transact [.read addr (s.byteAt addr)]

/-- `MemRead(addr, 1)` (00_scope.md R7): one bus read. -/
def busRead (addr : Word) (s : State) : Byte × State := (s.byteAt addr, s.readAt addr)

/-- `MemWrite(addr, 1, v)` (R7): one bus write, always issued; what it does is the bus's business (20_memory.md R51, R67). -/
def busWrite (addr : Word) (v : Byte) (s : State) : State := s.transact [.write addr v]

/-- A register of the 8-bit selector (10_state.md R29). -/
def State.reg (s : State) (r : Reg8) : Byte :=
  match r with
  | .B => s.b
  | .C => s.c
  | .D => s.d
  | .E => s.e
  | .H => s.h
  | .L => s.l
  | .A => s.a

/-- Write a register of the 8-bit selector (R29). -/
def State.setReg (s : State) (r : Reg8) (v : Byte) : State :=
  match r with
  | .B => { s with b := v }
  | .C => { s with c := v }
  | .D => { s with d := v }
  | .E => { s with e := v }
  | .H => { s with h := v }
  | .L => { s with l := v }
  | .A => { s with a := v }

/-- BC (10_state.md R22). -/
def State.bc (s : State) : Word := joinBytes s.b s.c
/-- DE (R22). -/
def State.de (s : State) : Word := joinBytes s.d s.e
/-- HL (R22). -/
def State.hl (s : State) : Word := joinBytes s.h s.l
/-- AF (R22). -/
def State.af (s : State) : Word := joinBytes s.a s.f

/-- Write F from any path: the low nibble is forced to 0 (R23). -/
def State.setF (s : State) (v : Byte) : State := { s with f := v &&& 0xF0 }

/-- Write BC (R22). -/
def State.setBC (s : State) (w : Word) : State := { s with b := hiByte w, c := loByte w }
/-- Write DE (R22). -/
def State.setDE (s : State) (w : Word) : State := { s with d := hiByte w, e := loByte w }
/-- Write HL (R22). -/
def State.setHL (s : State) (w : Word) : State := { s with h := hiByte w, l := loByte w }
/-- Write AF; the byte that goes to F is masked as every write of F (R22, R23). -/
def State.setAF (s : State) (w : Word) : State := { s with a := hiByte w }.setF (loByte w)

/-- `push16(v)` (00_scope.md R9): high byte at SP-1, low byte at SP-2, then SP decreases by 2. -/
def push16 (v : Word) (s : State) : State :=
  let s1 := busWrite (s.sp - 1) (hiByte v) s
  let s2 := busWrite (s.sp - 2) (loByte v) s1
  { s2 with sp := s.sp - 2 }

/-- `pop16()` (R9): low byte at SP, high byte at SP+1, then SP increases by 2. -/
def pop16 (s : State) : Word × State :=
  let lo := busRead s.sp s
  let hi := busRead (s.sp + 1) lo.2
  (joinBytes hi.1 lo.1, { hi.2 with sp := s.sp + 2 })

/-- The decode fault (60_exceptions.md R270, R275; assumption 5): the latch is set and the step's outcome records the
opcode and the address it was fetched from. PC keeps the fetch's increment; nothing else changes and nothing is
vectored. -/
def raiseDecodeFault (opcode : Byte) (addr : Word) (s : State) : State :=
  { s with faulted := true, result := .decodeFault opcode addr }

/-- The return from a handler (60_exceptions.md R276; 46_control_transfer.md R260): `PC <- pop16(); IME <- true`. No
status is restored. -/
def returnAndEnable (s : State) : State :=
  let p := pop16 s
  { p.2 with pc := p.1, ime := true }

/-- Continue an outcome's next state; a fault or a refusal stays. -/
def mapNext (g : State → State) (o : Outcome) : Outcome :=
  match o with
  | .next s => .next (g s)
  | .fault r => .fault r
  | .refused r => .refused r

/-- Reset of a running machine (70_reset_and_hazards.md R290, R293; assumption 18): the core's registers, flags and latches
take their reset values; the bus, the cycle table and the host are not touched. -/
def State.resetCore (s : State) : State :=
  { State.reset with bus := s.bus, cycles := s.cycles, hostWrites := s.hostWrites }

end Sys2Proof.Machine
end

