-- ==== Sys2Proof/Machine/Cycles.lean ====
section
/-! DEFINITION. Cycle accounting (spec 70_reset_and_hazards.md R298, R299; 42_dispatch_system.md R160): the count is looked up in
the P_CYCLES that State holds. No rule reads a cycle count. -/

namespace Sys2Proof.Machine

/-- The fixed cost of the instruction with these bytes (R160): a function of the table and the opcode bytes alone, so the
same whether a branch is taken or not (R299). An undefined opcode returns no count. -/
def cycleCost (table : CycleTable) (bytes : List Byte) : Option Nat :=
  match bytes with
  | [] => none
  | op :: rest =>
    if op = Config.escapeCode then rest.head?.map table.extendedCost
    else if undefinedOpcodes.contains op then none
    else some (table.primaryCost op)

/-- The step returns the cost (R150, R160); a step with no cost keeps the outcome its decode fault recorded. -/
def recordCycles (bytes : List Byte) (s : State) : State :=
  match cycleCost s.cycles bytes with
  | some k => { s with result := .ok k }
  | none => s

end Sys2Proof.Machine
end

