-- ==== Sys2Proof/Machine/Flags.lean ====
section
/-! DEFINITION. The flags register and every flag computation (spec 10_state.md R23, R32; 43_alu8.md R170, R171, R201;
44_alu16.md R210, R213; 45_rotate_shift_bit.md R220; 46_control_transfer.md R250). -/

namespace Sys2Proof.Machine

/-- `F.Z`, bit 7 (R23). -/
def State.flagZ (s : State) : Bool := s.f.getLsbD 7
/-- `F.N`, bit 6 (R23). -/
def State.flagN (s : State) : Bool := s.f.getLsbD 6
/-- `F.H`, bit 5 (R23). -/
def State.flagH (s : State) : Bool := s.f.getLsbD 5
/-- `F.C`, bit 4 (R23). -/
def State.flagC (s : State) : Bool := s.f.getLsbD 4

/-- `F = Z<<7 | N<<6 | H<<5 | C<<4` (R23). -/
def packFlags (z n h c : Bool) : Byte :=
  boolByte z <<< 7 ||| boolByte n <<< 6 ||| boolByte h <<< 5 ||| boolByte c <<< 4

/-- Write all four flags; a flag an instruction leaves alone is passed its old value. -/
def State.setFlags (s : State) (z n h c : Bool) : State := s.setF (packFlags z n h c)

/-- A byte result with the three flags that depend on it. -/
structure AluResult where
  res : Byte
  z : Bool
  h : Bool
  c : Bool
deriving DecidableEq, Repr

/-- `add8(a, b, cin)` (43_alu8.md R170), on natural numbers. -/
def add8 (a b : Byte) (cin : Bool) : AluResult :=
  let sum := a.toNat + b.toNat + cin.toNat
  let res := BitVec.ofNat 8 sum
  { res := res
    z := decide (res = 0)
    h := decide (a.toNat % 16 + b.toNat % 16 + cin.toNat > 0x0F)
    c := decide (sum > 0xFF) }

/-- `sub8(a, b, bin)` (43_alu8.md R171): a flag is set when the borrow occurs (90_conflicts.md C1). -/
def sub8 (a b : Byte) (bin : Bool) : AluResult :=
  let res := BitVec.ofNat 8 (a.toNat + 256 + 256 - b.toNat - bin.toNat)
  { res := res
    z := decide (res = 0)
    h := decide (a.toNat % 16 < b.toNat % 16 + bin.toNat)
    c := decide (a.toNat < b.toNat + bin.toNat) }

/-- The flags N, H, C and the result of one of the eight binary operations on A and a source `v`, with the current
carry (43_alu8.md R173 to R196). For CP the result is computed and not stored (R194). -/
def aluResult (o : AluOp) (a v : Byte) (carry : Bool) : AluResult :=
  match o with
  | .add => add8 a v false
  | .adc => add8 a v carry
  | .sub => sub8 a v false
  | .sbc => sub8 a v carry
  | .and => { res := a &&& v, z := decide (a &&& v = 0), h := true, c := false }
  | .xor => { res := a ^^^ v, z := decide (a ^^^ v = 0), h := false, c := false }
  | .or => { res := a ||| v, z := decide (a ||| v = 0), h := false, c := false }
  | .cp => sub8 a v false

/-- F.N after the operation: set for the subtracting ones (R179, R182, R194), clear for the others. -/
def aluN (o : AluOp) : Bool :=
  match o with
  | .add | .adc | .and | .xor | .or => false
  | .sub | .sbc | .cp => true

/-- The correction byte of DAA (43_alu8.md R201), from A and the flags before the instruction. -/
def daaCorrection (a : Byte) (n h c : Bool) : Byte :=
  (if h || (!n && decide (a.toNat % 16 > 0x09)) then 0x06 else 0x00) |||
    (if c || (!n && decide (a.toNat > 0x99)) then 0x60 else 0x00)

/-- A after DAA (R201). -/
def daaResult (a : Byte) (n h c : Bool) : Byte :=
  if n then a - daaCorrection a n h c else a + daaCorrection a n h c

/-- F.C after DAA: set exactly when the high correction was applied (R201). -/
def daaCarry (a : Byte) (n h c : Bool) : Bool := decide (daaCorrection a n h c &&& 0x60 ≠ 0)

/-- F.H of ADD HL,rr: the carry out of bit 11 (44_alu16.md R210). -/
def addHalfCarry16 (a b : Word) : Bool := decide (a.toNat % 4096 + b.toNat % 4096 > 0x0FFF)

/-- F.C of ADD HL,rr: the carry out of bit 15 (R210). -/
def addCarry16 (a b : Word) : Bool := decide (a.toNat + b.toNat > 0xFFFF)

/-- A word result with the half-carry and carry of `spoff`. -/
structure OffsetResult where
  res : Word
  h : Bool
  c : Bool
deriving DecidableEq, Repr

/-- `spoff(sp, e)` (44_alu16.md R213): H and C are bits 4 and 8 of `sp ^ n ^ res`. -/
def spoff (sp : Word) (e : Byte) : OffsetResult :=
  let n := sext16 e
  let res := sp + n
  let x := sp ^^^ n ^^^ res
  { res := res, h := x.getLsbD 4, c := x.getLsbD 8 }

/-- The shifted byte of `rot8(kind, v, cin)` (45_rotate_shift_bit.md R220). -/
def rotByte (k : RotKind) (v : Byte) (cin : Bool) : Byte :=
  match k with
  | .rlc => v <<< 1 ||| boolByte (v.getLsbD 7)
  | .rrc => v >>> 1 ||| boolByte (v.getLsbD 0) <<< 7
  | .rl => v <<< 1 ||| boolByte cin
  | .rr => v >>> 1 ||| boolByte cin <<< 7
  | .sla => v <<< 1
  | .sra => v >>> 1 ||| (v &&& 0x80)
  | .swap => (v <<< 4 &&& 0xF0) ||| v >>> 4
  | .srl => v >>> 1

/-- The carry out of `rot8(kind, v, cin)` (R220). -/
def rotCarry (k : RotKind) (v : Byte) : Bool :=
  match k with
  | .rlc | .rl | .sla => v.getLsbD 7
  | .rrc | .rr | .sra | .srl => v.getLsbD 0
  | .swap => false

/-- The byte with bit `b` alone set, `1 << b` (R243, R245). -/
def bitMask (b : Fin 8) : Byte := 1 <<< b.val

/-- `cond(cc)` (46_control_transfer.md R250). -/
def State.condHolds (s : State) (k : Cond) : Bool :=
  match k with
  | .NZ => !s.flagZ
  | .Z => s.flagZ
  | .NC => !s.flagC
  | .C => s.flagC

end Sys2Proof.Machine
end

