-- ==== Sys2Proof/Machine/Operands.lean ====
section
/-! DEFINITION. The operand forms: the selectors `r8`, `r16`, `r16stk`, and the page of the LDH forms (spec 10_state.md
R29 to R31; 20_memory.md R70). -/

namespace Sys2Proof.Machine

/-- Read `r8[i]` (R29): a register, or one bus read at HL. -/
def readSel (i : Sel8) (s : State) : Byte × State :=
  match i with
  | .reg r => (s.reg r, s)
  | .atHL => busRead s.hl s

/-- `r8[i] <- v` (R29): a register, or one bus write at HL. -/
def writeSel (i : Sel8) (v : Byte) (s : State) : State :=
  match i with
  | .reg r => s.setReg r v
  | .atHL => busWrite s.hl v s

/-- `r16[i]` (R30). -/
def State.pair (s : State) (p : Pair) : Word :=
  match p with
  | .BC => s.bc
  | .DE => s.de
  | .HL => s.hl
  | .SP => s.sp

/-- `r16[i] <- w` (R30). -/
def State.setPair (s : State) (p : Pair) (w : Word) : State :=
  match p with
  | .BC => s.setBC w
  | .DE => s.setDE w
  | .HL => s.setHL w
  | .SP => { s with sp := w }

/-- `r16stk[i]` (R31). -/
def State.stackPair (s : State) (p : StackPair) : Word :=
  match p with
  | .BC => s.bc
  | .DE => s.de
  | .HL => s.hl
  | .AF => s.af

/-- `r16stk[i] <- w` (R31); AF is masked (41_load16_stack.md R146). -/
def State.setStackPair (s : State) (p : StackPair) (w : Word) : State :=
  match p with
  | .BC => s.setBC w
  | .DE => s.setDE w
  | .HL => s.setHL w
  | .AF => s.setAF w

/-- `0xFF00 + zext_16(n)`: the address of the LDH forms (R70; 40_load8.md R132 to R135). -/
def highPage (n : Byte) : Word := 0xFF00 + zext16 n

end Sys2Proof.Machine
end

