-- ==== Sys2Proof/Machine/Alu16.lean ====
section
/-! DEFINITION. The 16-bit arithmetic instructions (spec 44_alu16.md R210 to R214): the shared operations, then one meaning
per instruction. -/

namespace Sys2Proof.Machine

/-- ADD HL,rr (R210): N = 0, H from bit 11, C from bit 15; Z unchanged. -/
def addPairToHL (p : Pair) (s : State) : Outcome :=
  .next ((s.setHL (s.hl + s.pair p)).setFlags s.flagZ false (addHalfCarry16 s.hl (s.pair p))
    (addCarry16 s.hl (s.pair p)))

/-- INC rr and DEC rr (R211, R212): no flag changes. -/
def addToPair (p : Pair) (delta : Word) (s : State) : Outcome := .next (s.setPair p (s.pair p + delta))

/-- ADD SP,e (R214): Z = 0, N = 0, H and C from `spoff`. -/
def addOffsetToSP (e : Byte) (s : State) : Outcome :=
  let x := spoff s.sp e
  .next ({ s with sp := x.res }.setFlags false false x.h x.c)

/-- INC BC (R211). -/
def execInc_BC (s : State) : Outcome := addToPair .BC 1 s

/-- ADD HL,BC (R210). -/
def execAdd_HL_BC (s : State) : Outcome := addPairToHL .BC s

/-- DEC BC (R212). -/
def execDec_BC (s : State) : Outcome := addToPair .BC (-1) s

/-- INC DE (R211). -/
def execInc_DE (s : State) : Outcome := addToPair .DE 1 s

/-- ADD HL,DE (R210). -/
def execAdd_HL_DE (s : State) : Outcome := addPairToHL .DE s

/-- DEC DE (R212). -/
def execDec_DE (s : State) : Outcome := addToPair .DE (-1) s

/-- INC HL (R211). -/
def execInc_HL (s : State) : Outcome := addToPair .HL 1 s

/-- ADD HL,HL (R210). -/
def execAdd_HL_HL (s : State) : Outcome := addPairToHL .HL s

/-- DEC HL (R212). -/
def execDec_HL (s : State) : Outcome := addToPair .HL (-1) s

/-- INC SP (R211). -/
def execInc_SP (s : State) : Outcome := addToPair .SP 1 s

/-- ADD HL,SP (R210). -/
def execAdd_HL_SP (s : State) : Outcome := addPairToHL .SP s

/-- DEC SP (R212). -/
def execDec_SP (s : State) : Outcome := addToPair .SP (-1) s

/-- ADD SP,e (R214). -/
def execAdd_SP_e (e : Byte) (s : State) : Outcome := addOffsetToSP e s

end Sys2Proof.Machine
end

