-- ==== Sys2Proof/Machine/Alu8.lean ====
section
/-! DEFINITION. The 8-bit arithmetic and logic instructions (spec 43_alu8.md R170 to R204): the shared operations, then one
meaning per instruction. -/

namespace Sys2Proof.Machine

/-- One of the eight binary operations on A and a source value (R173 to R196): CP alone does not write A (R194). -/
def aluOnA (o : AluOp) (v : Byte) (s : State) : State :=
  let x := aluResult o s.a v s.flagC
  { s with a := if o = AluOp.cp then s.a else x.res }.setFlags x.z (aluN o) x.h x.c

/-- The register and (HL) forms (R172). -/
def aluSelector (o : AluOp) (src : Sel8) (s : State) : Outcome :=
  let v := readSel src s
  .next (aluOnA o v.1 v.2)

/-- The immediate form (R172). -/
def aluImmediate (o : AluOp) (n : Byte) (s : State) : Outcome := .next (aluOnA o n s)

/-- INC of a register or of memory at HL (R197, R198): Z, N = 0, H; C unchanged. -/
def incrementByte (i : Sel8) (s : State) : Outcome :=
  let v := readSel i s
  let res := v.1 + 1
  .next ((writeSel i res v.2).setFlags (decide (res = 0)) false (decide (v.1.toNat % 16 = 0x0F)) s.flagC)

/-- DEC of a register or of memory at HL (R199, R200): Z, N = 1, H; C unchanged. -/
def decrementByte (i : Sel8) (s : State) : Outcome :=
  let v := readSel i s
  let res := v.1 - 1
  .next ((writeSel i res v.2).setFlags (decide (res = 0)) true (decide (v.1.toNat % 16 = 0)) s.flagC)

/-- DAA (R201): N unchanged, H = 0. -/
def decimalAdjust (s : State) : Outcome :=
  let res := daaResult s.a s.flagN s.flagH s.flagC
  .next ({ s with a := res }.setFlags (decide (res = 0)) s.flagN false (daaCarry s.a s.flagN s.flagH s.flagC))

/-- CPL (R202): N = 1, H = 1; Z and C unchanged. -/
def complementA (s : State) : Outcome :=
  .next ({ s with a := s.a ^^^ 0xFF }.setFlags s.flagZ true true s.flagC)

/-- SCF (R203): C = 1, N = 0, H = 0; Z unchanged. -/
def setCarry (s : State) : Outcome := .next (s.setFlags s.flagZ false false true)

/-- CCF (R204): C inverted, N = 0, H = 0; Z unchanged. -/
def complementCarry (s : State) : Outcome := .next (s.setFlags s.flagZ false false (!s.flagC))

/-- INC B (R197). -/
def execInc_B (s : State) : Outcome := incrementByte (.reg .B) s

/-- DEC B (R199). -/
def execDec_B (s : State) : Outcome := decrementByte (.reg .B) s

/-- INC C (R197). -/
def execInc_C (s : State) : Outcome := incrementByte (.reg .C) s

/-- DEC C (R199). -/
def execDec_C (s : State) : Outcome := decrementByte (.reg .C) s

/-- INC D (R197). -/
def execInc_D (s : State) : Outcome := incrementByte (.reg .D) s

/-- DEC D (R199). -/
def execDec_D (s : State) : Outcome := decrementByte (.reg .D) s

/-- INC E (R197). -/
def execInc_E (s : State) : Outcome := incrementByte (.reg .E) s

/-- DEC E (R199). -/
def execDec_E (s : State) : Outcome := decrementByte (.reg .E) s

/-- INC H (R197). -/
def execInc_H (s : State) : Outcome := incrementByte (.reg .H) s

/-- DEC H (R199). -/
def execDec_H (s : State) : Outcome := decrementByte (.reg .H) s

/-- DAA (R201). -/
def execDaa (s : State) : Outcome := decimalAdjust s

/-- INC L (R197). -/
def execInc_L (s : State) : Outcome := incrementByte (.reg .L) s

/-- DEC L (R199). -/
def execDec_L (s : State) : Outcome := decrementByte (.reg .L) s

/-- CPL (R202). -/
def execCpl (s : State) : Outcome := complementA s

/-- INC (HL) (R198). -/
def execInc_atHL (s : State) : Outcome := incrementByte .atHL s

/-- DEC (HL) (R200). -/
def execDec_atHL (s : State) : Outcome := decrementByte .atHL s

/-- SCF (R203). -/
def execScf (s : State) : Outcome := setCarry s

/-- INC A (R197). -/
def execInc_A (s : State) : Outcome := incrementByte (.reg .A) s

/-- DEC A (R199). -/
def execDec_A (s : State) : Outcome := decrementByte (.reg .A) s

/-- CCF (R204). -/
def execCcf (s : State) : Outcome := complementCarry s

/-- ADD A,B (R173). -/
def execAdd_A_B (s : State) : Outcome := aluSelector .add (.reg .B) s

/-- ADD A,C (R173). -/
def execAdd_A_C (s : State) : Outcome := aluSelector .add (.reg .C) s

/-- ADD A,D (R173). -/
def execAdd_A_D (s : State) : Outcome := aluSelector .add (.reg .D) s

/-- ADD A,E (R173). -/
def execAdd_A_E (s : State) : Outcome := aluSelector .add (.reg .E) s

/-- ADD A,H (R173). -/
def execAdd_A_H (s : State) : Outcome := aluSelector .add (.reg .H) s

/-- ADD A,L (R173). -/
def execAdd_A_L (s : State) : Outcome := aluSelector .add (.reg .L) s

/-- ADD A,(HL) (R174). -/
def execAdd_A_atHL (s : State) : Outcome := aluSelector .add .atHL s

/-- ADD A,A (R173). -/
def execAdd_A_A (s : State) : Outcome := aluSelector .add (.reg .A) s

/-- ADC A,B (R176). -/
def execAdc_A_B (s : State) : Outcome := aluSelector .adc (.reg .B) s

/-- ADC A,C (R176). -/
def execAdc_A_C (s : State) : Outcome := aluSelector .adc (.reg .C) s

/-- ADC A,D (R176). -/
def execAdc_A_D (s : State) : Outcome := aluSelector .adc (.reg .D) s

/-- ADC A,E (R176). -/
def execAdc_A_E (s : State) : Outcome := aluSelector .adc (.reg .E) s

/-- ADC A,H (R176). -/
def execAdc_A_H (s : State) : Outcome := aluSelector .adc (.reg .H) s

/-- ADC A,L (R176). -/
def execAdc_A_L (s : State) : Outcome := aluSelector .adc (.reg .L) s

/-- ADC A,(HL) (R177). -/
def execAdc_A_atHL (s : State) : Outcome := aluSelector .adc .atHL s

/-- ADC A,A (R176). -/
def execAdc_A_A (s : State) : Outcome := aluSelector .adc (.reg .A) s

/-- SUB B (R179). -/
def execSub_B (s : State) : Outcome := aluSelector .sub (.reg .B) s

/-- SUB C (R179). -/
def execSub_C (s : State) : Outcome := aluSelector .sub (.reg .C) s

/-- SUB D (R179). -/
def execSub_D (s : State) : Outcome := aluSelector .sub (.reg .D) s

/-- SUB E (R179). -/
def execSub_E (s : State) : Outcome := aluSelector .sub (.reg .E) s

/-- SUB H (R179). -/
def execSub_H (s : State) : Outcome := aluSelector .sub (.reg .H) s

/-- SUB L (R179). -/
def execSub_L (s : State) : Outcome := aluSelector .sub (.reg .L) s

/-- SUB (HL) (R180). -/
def execSub_atHL (s : State) : Outcome := aluSelector .sub .atHL s

/-- SUB A (R179). -/
def execSub_A (s : State) : Outcome := aluSelector .sub (.reg .A) s

/-- SBC A,B (R182). -/
def execSbc_A_B (s : State) : Outcome := aluSelector .sbc (.reg .B) s

/-- SBC A,C (R182). -/
def execSbc_A_C (s : State) : Outcome := aluSelector .sbc (.reg .C) s

/-- SBC A,D (R182). -/
def execSbc_A_D (s : State) : Outcome := aluSelector .sbc (.reg .D) s

/-- SBC A,E (R182). -/
def execSbc_A_E (s : State) : Outcome := aluSelector .sbc (.reg .E) s

/-- SBC A,H (R182). -/
def execSbc_A_H (s : State) : Outcome := aluSelector .sbc (.reg .H) s

/-- SBC A,L (R182). -/
def execSbc_A_L (s : State) : Outcome := aluSelector .sbc (.reg .L) s

/-- SBC A,(HL) (R183). -/
def execSbc_A_atHL (s : State) : Outcome := aluSelector .sbc .atHL s

/-- SBC A,A (R182). -/
def execSbc_A_A (s : State) : Outcome := aluSelector .sbc (.reg .A) s

/-- AND B (R185). -/
def execAnd_B (s : State) : Outcome := aluSelector .and (.reg .B) s

/-- AND C (R185). -/
def execAnd_C (s : State) : Outcome := aluSelector .and (.reg .C) s

/-- AND D (R185). -/
def execAnd_D (s : State) : Outcome := aluSelector .and (.reg .D) s

/-- AND E (R185). -/
def execAnd_E (s : State) : Outcome := aluSelector .and (.reg .E) s

/-- AND H (R185). -/
def execAnd_H (s : State) : Outcome := aluSelector .and (.reg .H) s

/-- AND L (R185). -/
def execAnd_L (s : State) : Outcome := aluSelector .and (.reg .L) s

/-- AND (HL) (R186). -/
def execAnd_atHL (s : State) : Outcome := aluSelector .and .atHL s

/-- AND A (R185). -/
def execAnd_A (s : State) : Outcome := aluSelector .and (.reg .A) s

/-- XOR B (R188). -/
def execXor_B (s : State) : Outcome := aluSelector .xor (.reg .B) s

/-- XOR C (R188). -/
def execXor_C (s : State) : Outcome := aluSelector .xor (.reg .C) s

/-- XOR D (R188). -/
def execXor_D (s : State) : Outcome := aluSelector .xor (.reg .D) s

/-- XOR E (R188). -/
def execXor_E (s : State) : Outcome := aluSelector .xor (.reg .E) s

/-- XOR H (R188). -/
def execXor_H (s : State) : Outcome := aluSelector .xor (.reg .H) s

/-- XOR L (R188). -/
def execXor_L (s : State) : Outcome := aluSelector .xor (.reg .L) s

/-- XOR (HL) (R189). -/
def execXor_atHL (s : State) : Outcome := aluSelector .xor .atHL s

/-- XOR A (R188). -/
def execXor_A (s : State) : Outcome := aluSelector .xor (.reg .A) s

/-- OR B (R191). -/
def execOr_B (s : State) : Outcome := aluSelector .or (.reg .B) s

/-- OR C (R191). -/
def execOr_C (s : State) : Outcome := aluSelector .or (.reg .C) s

/-- OR D (R191). -/
def execOr_D (s : State) : Outcome := aluSelector .or (.reg .D) s

/-- OR E (R191). -/
def execOr_E (s : State) : Outcome := aluSelector .or (.reg .E) s

/-- OR H (R191). -/
def execOr_H (s : State) : Outcome := aluSelector .or (.reg .H) s

/-- OR L (R191). -/
def execOr_L (s : State) : Outcome := aluSelector .or (.reg .L) s

/-- OR (HL) (R192). -/
def execOr_atHL (s : State) : Outcome := aluSelector .or .atHL s

/-- OR A (R191). -/
def execOr_A (s : State) : Outcome := aluSelector .or (.reg .A) s

/-- CP B (R194). -/
def execCp_B (s : State) : Outcome := aluSelector .cp (.reg .B) s

/-- CP C (R194). -/
def execCp_C (s : State) : Outcome := aluSelector .cp (.reg .C) s

/-- CP D (R194). -/
def execCp_D (s : State) : Outcome := aluSelector .cp (.reg .D) s

/-- CP E (R194). -/
def execCp_E (s : State) : Outcome := aluSelector .cp (.reg .E) s

/-- CP H (R194). -/
def execCp_H (s : State) : Outcome := aluSelector .cp (.reg .H) s

/-- CP L (R194). -/
def execCp_L (s : State) : Outcome := aluSelector .cp (.reg .L) s

/-- CP (HL) (R195). -/
def execCp_atHL (s : State) : Outcome := aluSelector .cp .atHL s

/-- CP A (R194). -/
def execCp_A (s : State) : Outcome := aluSelector .cp (.reg .A) s

/-- ADD A,n (R175). -/
def execAdd_A_n (n : Byte) (s : State) : Outcome := aluImmediate .add n s

/-- ADC A,n (R178). -/
def execAdc_A_n (n : Byte) (s : State) : Outcome := aluImmediate .adc n s

/-- SUB n (R181). -/
def execSub_n (n : Byte) (s : State) : Outcome := aluImmediate .sub n s

/-- SBC A,n (R184). -/
def execSbc_A_n (n : Byte) (s : State) : Outcome := aluImmediate .sbc n s

/-- AND n (R187). -/
def execAnd_n (n : Byte) (s : State) : Outcome := aluImmediate .and n s

/-- XOR n (R190). -/
def execXor_n (n : Byte) (s : State) : Outcome := aluImmediate .xor n s

/-- OR n (R193). -/
def execOr_n (n : Byte) (s : State) : Outcome := aluImmediate .or n s

/-- CP n (R196). -/
def execCp_n (n : Byte) (s : State) : Outcome := aluImmediate .cp n s

end Sys2Proof.Machine
end

