-- ==== Sys2Proof/Machine/ControlTransfer.lean ====
section
/-! DEFINITION. The control-transfer instructions (spec 46_control_transfer.md R250 to R261): the shared operations, then
one meaning per instruction. PC is one past the instruction when they run (42_dispatch_system.md R161). -/

namespace Sys2Proof.Machine

/-- `PC <- target` (R251, R253). -/
def jumpTo (target : Word) (s : State) : Outcome := .next { s with pc := target }

/-- `if cond(cc) then PC <- nn` (R252). -/
def jumpIf (k : Cond) (nn : Word) (s : State) : Outcome :=
  .next (if s.condHolds k then { s with pc := nn } else s)

/-- `PC <- PC + sext_16(e)` (R254). -/
def jumpRelative (e : Byte) (s : State) : Outcome := .next { s with pc := s.pc + sext16 e }

/-- `if cond(cc) then PC <- PC + sext_16(e)` (R255). -/
def jumpRelativeIf (k : Cond) (e : Byte) (s : State) : Outcome :=
  .next (if s.condHolds k then { s with pc := s.pc + sext16 e } else s)

/-- `push16(PC); PC <- target` (R256, R261). -/
def pushPCAndJump (target : Word) (s : State) : State := { push16 s.pc s with pc := target }

/-- `push16(PC); PC <- nn` (R256). -/
def callTo (nn : Word) (s : State) : Outcome := .next (pushPCAndJump nn s)

/-- `if cond(cc) then { push16(PC); PC <- nn }` (R257). -/
def callIf (k : Cond) (nn : Word) (s : State) : Outcome :=
  .next (if s.condHolds k then pushPCAndJump nn s else s)

/-- `PC <- pop16()` (R258). -/
def popPC (s : State) : State :=
  let v := pop16 s
  { v.2 with pc := v.1 }

/-- RET (R258). -/
def returnFromCall (s : State) : Outcome := .next (popPC s)

/-- `if cond(cc) then PC <- pop16()` (R259). -/
def returnIf (k : Cond) (s : State) : Outcome := .next (if s.condHolds k then popPC s else s)

/-- `PC <- pop16(); IME <- true` (R260). -/
def returnFromInterrupt (s : State) : Outcome := .next (returnAndEnable s)

/-- `push16(PC); PC <- 8 * n` (R261). -/
def restart (n : Fin 8) (s : State) : Outcome := .next (pushPCAndJump (BitVec.ofNat 16 (8 * n.val)) s)

/-- JR e (R254). -/
def execJr_e (e : Byte) (s : State) : Outcome := jumpRelative e s

/-- JR NZ,e (R255). -/
def execJr_NZ_e (e : Byte) (s : State) : Outcome := jumpRelativeIf .NZ e s

/-- JR Z,e (R255). -/
def execJr_Z_e (e : Byte) (s : State) : Outcome := jumpRelativeIf .Z e s

/-- JR NC,e (R255). -/
def execJr_NC_e (e : Byte) (s : State) : Outcome := jumpRelativeIf .NC e s

/-- JR C,e (R255). -/
def execJr_C_e (e : Byte) (s : State) : Outcome := jumpRelativeIf .C e s

/-- RET NZ (R259). -/
def execRet_NZ (s : State) : Outcome := returnIf .NZ s

/-- JP NZ,nn (R252). -/
def execJp_NZ_nn (nn : Word) (s : State) : Outcome := jumpIf .NZ nn s

/-- JP nn (R251). -/
def execJp_nn (nn : Word) (s : State) : Outcome := jumpTo nn s

/-- CALL NZ,nn (R257). -/
def execCall_NZ_nn (nn : Word) (s : State) : Outcome := callIf .NZ nn s

/-- RST 0x00 (R261). -/
def execRst_00 (s : State) : Outcome := restart 0 s

/-- RET Z (R259). -/
def execRet_Z (s : State) : Outcome := returnIf .Z s

/-- RET (R258). -/
def execRet (s : State) : Outcome := returnFromCall s

/-- JP Z,nn (R252). -/
def execJp_Z_nn (nn : Word) (s : State) : Outcome := jumpIf .Z nn s

/-- CALL Z,nn (R257). -/
def execCall_Z_nn (nn : Word) (s : State) : Outcome := callIf .Z nn s

/-- CALL nn (R256). -/
def execCall_nn (nn : Word) (s : State) : Outcome := callTo nn s

/-- RST 0x08 (R261). -/
def execRst_08 (s : State) : Outcome := restart 1 s

/-- RET NC (R259). -/
def execRet_NC (s : State) : Outcome := returnIf .NC s

/-- JP NC,nn (R252). -/
def execJp_NC_nn (nn : Word) (s : State) : Outcome := jumpIf .NC nn s

/-- CALL NC,nn (R257). -/
def execCall_NC_nn (nn : Word) (s : State) : Outcome := callIf .NC nn s

/-- RST 0x10 (R261). -/
def execRst_10 (s : State) : Outcome := restart 2 s

/-- RET C (R259). -/
def execRet_C (s : State) : Outcome := returnIf .C s

/-- RETI (R260). -/
def execReti (s : State) : Outcome := returnFromInterrupt s

/-- JP C,nn (R252). -/
def execJp_C_nn (nn : Word) (s : State) : Outcome := jumpIf .C nn s

/-- CALL C,nn (R257). -/
def execCall_C_nn (nn : Word) (s : State) : Outcome := callIf .C nn s

/-- RST 0x18 (R261). -/
def execRst_18 (s : State) : Outcome := restart 3 s

/-- RST 0x20 (R261). -/
def execRst_20 (s : State) : Outcome := restart 4 s

/-- JP HL (R253). -/
def execJp_HL (s : State) : Outcome := jumpTo s.hl s

/-- RST 0x28 (R261). -/
def execRst_28 (s : State) : Outcome := restart 5 s

/-- RST 0x30 (R261). -/
def execRst_30 (s : State) : Outcome := restart 6 s

/-- RST 0x38 (R261). -/
def execRst_38 (s : State) : Outcome := restart 7 s

end Sys2Proof.Machine
end

