-- ==== Sys2Proof/Machine/Load16.lean ====
section
/-! DEFINITION. The 16-bit loads and the stack instructions (spec 41_load16_stack.md R140 to R147): the shared operations,
then one meaning per instruction. -/

namespace Sys2Proof.Machine

/-- `r16[p] <- nn` (R140). -/
def loadPair (p : Pair) (nn : Word) (s : State) : Outcome := .next (s.setPair p nn)

/-- `MemWrite(nn, 1, SP[7:0]); MemWrite(nn + 1, 1, SP[15:8])` (R141). -/
def storeSP (nn : Word) (s : State) : Outcome :=
  .next (busWrite (nn + 1) (hiByte s.sp) (busWrite nn (loByte s.sp) s))

/-- `SP <- HL` (R142). -/
def copyHLToSP (s : State) : Outcome := .next { s with sp := s.hl }

/-- `HL <- SP + e` with the flags of `spoff`, Z and N forced to 0 (R143). -/
def offsetSPToHL (e : Byte) (s : State) : Outcome :=
  let x := spoff s.sp e
  .next ((s.setHL x.res).setFlags false false x.h x.c)

/-- `push16(r16stk[p])` (R144). -/
def pushPair (p : StackPair) (s : State) : Outcome := .next (push16 (s.stackPair p) s)

/-- `r16stk[p] <- pop16()` (R145), AF with the low nibble of F forced to 0 (R146). -/
def popPair (p : StackPair) (s : State) : Outcome :=
  let v := pop16 s
  .next (v.2.setStackPair p v.1)

/-- LD BC,nn (R140). -/
def execLd_BC_nn (nn : Word) (s : State) : Outcome := loadPair .BC nn s

/-- LD (nn),SP (R141). -/
def execLd_atnn_SP (nn : Word) (s : State) : Outcome := storeSP nn s

/-- LD DE,nn (R140). -/
def execLd_DE_nn (nn : Word) (s : State) : Outcome := loadPair .DE nn s

/-- LD HL,nn (R140). -/
def execLd_HL_nn (nn : Word) (s : State) : Outcome := loadPair .HL nn s

/-- LD SP,nn (R140). -/
def execLd_SP_nn (nn : Word) (s : State) : Outcome := loadPair .SP nn s

/-- POP BC (R145). -/
def execPop_BC (s : State) : Outcome := popPair .BC s

/-- PUSH BC (R144). -/
def execPush_BC (s : State) : Outcome := pushPair .BC s

/-- POP DE (R145). -/
def execPop_DE (s : State) : Outcome := popPair .DE s

/-- PUSH DE (R144). -/
def execPush_DE (s : State) : Outcome := pushPair .DE s

/-- POP HL (R145). -/
def execPop_HL (s : State) : Outcome := popPair .HL s

/-- PUSH HL (R144). -/
def execPush_HL (s : State) : Outcome := pushPair .HL s

/-- POP AF (R146). -/
def execPop_AF (s : State) : Outcome := popPair .AF s

/-- PUSH AF (R144). -/
def execPush_AF (s : State) : Outcome := pushPair .AF s

/-- LD HL,SP+e (R143). -/
def execLd_HL_SPe (e : Byte) (s : State) : Outcome := offsetSPToHL e s

/-- LD SP,HL (R142). -/
def execLd_SP_HL (s : State) : Outcome := copyHLToSP s

end Sys2Proof.Machine
end

