-- ==== Sys2Proof/Machine/Load8.lean ====
section
/-! DEFINITION. The 8-bit loads (spec 40_load8.md R120 to R139): the shared operations, then one meaning per instruction.
No load writes a flag (R120). -/

namespace Sys2Proof.Machine

/-- `r8[dst] <- r8[src]` (R121, R123, R124): the source is read before the destination is written. -/
def copyByte (dst src : Sel8) (s : State) : Outcome :=
  let v := readSel src s
  .next (writeSel dst v.1 v.2)

/-- `r8[dst] <- n` (R122, R125). -/
def loadImmediate (dst : Sel8) (n : Byte) (s : State) : Outcome := .next (writeSel dst n s)

/-- `A <- MemRead(addr, 1)` (R126, R127, R130, R132, R134). -/
def loadA (addr : Word) (s : State) : Outcome :=
  let v := busRead addr s
  .next { v.2 with a := v.1 }

/-- `MemWrite(addr, 1, A)` (R128, R129, R131, R133, R135). -/
def storeA (addr : Word) (s : State) : Outcome := .next (busWrite addr s.a s)

/-- `MemWrite(HL, 1, A); HL <- HL + delta` (R136, R138). -/
def storeAStepHL (delta : Word) (s : State) : Outcome := .next ((busWrite s.hl s.a s).setHL (s.hl + delta))

/-- `A <- MemRead(HL, 1); HL <- HL + delta` (R137, R139). -/
def loadAStepHL (delta : Word) (s : State) : Outcome :=
  let v := busRead s.hl s
  .next ({ v.2 with a := v.1 }.setHL (s.hl + delta))

/-- LD (BC),A (R128). -/
def execLd_atBC_A (s : State) : Outcome := storeA s.bc s

/-- LD B,n (R122). -/
def execLd_B_n (n : Byte) (s : State) : Outcome := loadImmediate (.reg .B) n s

/-- LD A,(BC) (R126). -/
def execLd_A_atBC (s : State) : Outcome := loadA s.bc s

/-- LD C,n (R122). -/
def execLd_C_n (n : Byte) (s : State) : Outcome := loadImmediate (.reg .C) n s

/-- LD (DE),A (R129). -/
def execLd_atDE_A (s : State) : Outcome := storeA s.de s

/-- LD D,n (R122). -/
def execLd_D_n (n : Byte) (s : State) : Outcome := loadImmediate (.reg .D) n s

/-- LD A,(DE) (R127). -/
def execLd_A_atDE (s : State) : Outcome := loadA s.de s

/-- LD E,n (R122). -/
def execLd_E_n (n : Byte) (s : State) : Outcome := loadImmediate (.reg .E) n s

/-- LD (HL+),A (R136). -/
def execLd_atHLi_A (s : State) : Outcome := storeAStepHL 1 s

/-- LD H,n (R122). -/
def execLd_H_n (n : Byte) (s : State) : Outcome := loadImmediate (.reg .H) n s

/-- LD A,(HL+) (R137). -/
def execLd_A_atHLi (s : State) : Outcome := loadAStepHL 1 s

/-- LD L,n (R122). -/
def execLd_L_n (n : Byte) (s : State) : Outcome := loadImmediate (.reg .L) n s

/-- LD (HL-),A (R138). -/
def execLd_atHLd_A (s : State) : Outcome := storeAStepHL (-1) s

/-- LD (HL),n (R125). -/
def execLd_atHL_n (n : Byte) (s : State) : Outcome := loadImmediate .atHL n s

/-- LD A,(HL-) (R139). -/
def execLd_A_atHLd (s : State) : Outcome := loadAStepHL (-1) s

/-- LD A,n (R122). -/
def execLd_A_n (n : Byte) (s : State) : Outcome := loadImmediate (.reg .A) n s

/-- LD B,B (R121). -/
def execLd_B_B (s : State) : Outcome := copyByte (.reg .B) (.reg .B) s

/-- LD B,C (R121). -/
def execLd_B_C (s : State) : Outcome := copyByte (.reg .B) (.reg .C) s

/-- LD B,D (R121). -/
def execLd_B_D (s : State) : Outcome := copyByte (.reg .B) (.reg .D) s

/-- LD B,E (R121). -/
def execLd_B_E (s : State) : Outcome := copyByte (.reg .B) (.reg .E) s

/-- LD B,H (R121). -/
def execLd_B_H (s : State) : Outcome := copyByte (.reg .B) (.reg .H) s

/-- LD B,L (R121). -/
def execLd_B_L (s : State) : Outcome := copyByte (.reg .B) (.reg .L) s

/-- LD B,(HL) (R123). -/
def execLd_B_atHL (s : State) : Outcome := copyByte (.reg .B) .atHL s

/-- LD B,A (R121). -/
def execLd_B_A (s : State) : Outcome := copyByte (.reg .B) (.reg .A) s

/-- LD C,B (R121). -/
def execLd_C_B (s : State) : Outcome := copyByte (.reg .C) (.reg .B) s

/-- LD C,C (R121). -/
def execLd_C_C (s : State) : Outcome := copyByte (.reg .C) (.reg .C) s

/-- LD C,D (R121). -/
def execLd_C_D (s : State) : Outcome := copyByte (.reg .C) (.reg .D) s

/-- LD C,E (R121). -/
def execLd_C_E (s : State) : Outcome := copyByte (.reg .C) (.reg .E) s

/-- LD C,H (R121). -/
def execLd_C_H (s : State) : Outcome := copyByte (.reg .C) (.reg .H) s

/-- LD C,L (R121). -/
def execLd_C_L (s : State) : Outcome := copyByte (.reg .C) (.reg .L) s

/-- LD C,(HL) (R123). -/
def execLd_C_atHL (s : State) : Outcome := copyByte (.reg .C) .atHL s

/-- LD C,A (R121). -/
def execLd_C_A (s : State) : Outcome := copyByte (.reg .C) (.reg .A) s

/-- LD D,B (R121). -/
def execLd_D_B (s : State) : Outcome := copyByte (.reg .D) (.reg .B) s

/-- LD D,C (R121). -/
def execLd_D_C (s : State) : Outcome := copyByte (.reg .D) (.reg .C) s

/-- LD D,D (R121). -/
def execLd_D_D (s : State) : Outcome := copyByte (.reg .D) (.reg .D) s

/-- LD D,E (R121). -/
def execLd_D_E (s : State) : Outcome := copyByte (.reg .D) (.reg .E) s

/-- LD D,H (R121). -/
def execLd_D_H (s : State) : Outcome := copyByte (.reg .D) (.reg .H) s

/-- LD D,L (R121). -/
def execLd_D_L (s : State) : Outcome := copyByte (.reg .D) (.reg .L) s

/-- LD D,(HL) (R123). -/
def execLd_D_atHL (s : State) : Outcome := copyByte (.reg .D) .atHL s

/-- LD D,A (R121). -/
def execLd_D_A (s : State) : Outcome := copyByte (.reg .D) (.reg .A) s

/-- LD E,B (R121). -/
def execLd_E_B (s : State) : Outcome := copyByte (.reg .E) (.reg .B) s

/-- LD E,C (R121). -/
def execLd_E_C (s : State) : Outcome := copyByte (.reg .E) (.reg .C) s

/-- LD E,D (R121). -/
def execLd_E_D (s : State) : Outcome := copyByte (.reg .E) (.reg .D) s

/-- LD E,E (R121). -/
def execLd_E_E (s : State) : Outcome := copyByte (.reg .E) (.reg .E) s

/-- LD E,H (R121). -/
def execLd_E_H (s : State) : Outcome := copyByte (.reg .E) (.reg .H) s

/-- LD E,L (R121). -/
def execLd_E_L (s : State) : Outcome := copyByte (.reg .E) (.reg .L) s

/-- LD E,(HL) (R123). -/
def execLd_E_atHL (s : State) : Outcome := copyByte (.reg .E) .atHL s

/-- LD E,A (R121). -/
def execLd_E_A (s : State) : Outcome := copyByte (.reg .E) (.reg .A) s

/-- LD H,B (R121). -/
def execLd_H_B (s : State) : Outcome := copyByte (.reg .H) (.reg .B) s

/-- LD H,C (R121). -/
def execLd_H_C (s : State) : Outcome := copyByte (.reg .H) (.reg .C) s

/-- LD H,D (R121). -/
def execLd_H_D (s : State) : Outcome := copyByte (.reg .H) (.reg .D) s

/-- LD H,E (R121). -/
def execLd_H_E (s : State) : Outcome := copyByte (.reg .H) (.reg .E) s

/-- LD H,H (R121). -/
def execLd_H_H (s : State) : Outcome := copyByte (.reg .H) (.reg .H) s

/-- LD H,L (R121). -/
def execLd_H_L (s : State) : Outcome := copyByte (.reg .H) (.reg .L) s

/-- LD H,(HL) (R123). -/
def execLd_H_atHL (s : State) : Outcome := copyByte (.reg .H) .atHL s

/-- LD H,A (R121). -/
def execLd_H_A (s : State) : Outcome := copyByte (.reg .H) (.reg .A) s

/-- LD L,B (R121). -/
def execLd_L_B (s : State) : Outcome := copyByte (.reg .L) (.reg .B) s

/-- LD L,C (R121). -/
def execLd_L_C (s : State) : Outcome := copyByte (.reg .L) (.reg .C) s

/-- LD L,D (R121). -/
def execLd_L_D (s : State) : Outcome := copyByte (.reg .L) (.reg .D) s

/-- LD L,E (R121). -/
def execLd_L_E (s : State) : Outcome := copyByte (.reg .L) (.reg .E) s

/-- LD L,H (R121). -/
def execLd_L_H (s : State) : Outcome := copyByte (.reg .L) (.reg .H) s

/-- LD L,L (R121). -/
def execLd_L_L (s : State) : Outcome := copyByte (.reg .L) (.reg .L) s

/-- LD L,(HL) (R123). -/
def execLd_L_atHL (s : State) : Outcome := copyByte (.reg .L) .atHL s

/-- LD L,A (R121). -/
def execLd_L_A (s : State) : Outcome := copyByte (.reg .L) (.reg .A) s

/-- LD (HL),B (R124). -/
def execLd_atHL_B (s : State) : Outcome := copyByte .atHL (.reg .B) s

/-- LD (HL),C (R124). -/
def execLd_atHL_C (s : State) : Outcome := copyByte .atHL (.reg .C) s

/-- LD (HL),D (R124). -/
def execLd_atHL_D (s : State) : Outcome := copyByte .atHL (.reg .D) s

/-- LD (HL),E (R124). -/
def execLd_atHL_E (s : State) : Outcome := copyByte .atHL (.reg .E) s

/-- LD (HL),H (R124). -/
def execLd_atHL_H (s : State) : Outcome := copyByte .atHL (.reg .H) s

/-- LD (HL),L (R124). -/
def execLd_atHL_L (s : State) : Outcome := copyByte .atHL (.reg .L) s

/-- LD (HL),A (R124). -/
def execLd_atHL_A (s : State) : Outcome := copyByte .atHL (.reg .A) s

/-- LD A,B (R121). -/
def execLd_A_B (s : State) : Outcome := copyByte (.reg .A) (.reg .B) s

/-- LD A,C (R121). -/
def execLd_A_C (s : State) : Outcome := copyByte (.reg .A) (.reg .C) s

/-- LD A,D (R121). -/
def execLd_A_D (s : State) : Outcome := copyByte (.reg .A) (.reg .D) s

/-- LD A,E (R121). -/
def execLd_A_E (s : State) : Outcome := copyByte (.reg .A) (.reg .E) s

/-- LD A,H (R121). -/
def execLd_A_H (s : State) : Outcome := copyByte (.reg .A) (.reg .H) s

/-- LD A,L (R121). -/
def execLd_A_L (s : State) : Outcome := copyByte (.reg .A) (.reg .L) s

/-- LD A,(HL) (R123). -/
def execLd_A_atHL (s : State) : Outcome := copyByte (.reg .A) .atHL s

/-- LD A,A (R121). -/
def execLd_A_A (s : State) : Outcome := copyByte (.reg .A) (.reg .A) s

/-- LDH (n),A (R135). -/
def execLdh_atn_A (n : Byte) (s : State) : Outcome := storeA (highPage n) s

/-- LDH (C),A (R133). -/
def execLdh_atC_A (s : State) : Outcome := storeA (highPage s.c) s

/-- LD (nn),A (R131). -/
def execLd_atnn_A (nn : Word) (s : State) : Outcome := storeA nn s

/-- LDH A,(n) (R134). -/
def execLdh_A_atn (n : Byte) (s : State) : Outcome := loadA (highPage n) s

/-- LDH A,(C) (R132). -/
def execLdh_A_atC (s : State) : Outcome := loadA (highPage s.c) s

/-- LD A,(nn) (R130). -/
def execLd_A_atnn (nn : Word) (s : State) : Outcome := loadA nn s

end Sys2Proof.Machine
end

