-- ==== Sys2Proof/Machine/RotateShiftBit.lean ====
section
/-! DEFINITION. Rotates, shifts and bit operations (spec 45_rotate_shift_bit.md R220 to R246): the shared operations, then
one meaning per instruction. -/

namespace Sys2Proof.Machine

/-- The accumulator rotates (R221 to R224): Z is 0 whatever the result. -/
def rotateA (k : RotKind) (s : State) : Outcome :=
  .next ({ s with a := rotByte k s.a s.flagC }.setFlags false false false (rotCarry k s.a))

/-- The extended rotates and shifts (R225 to R240): Z from the result, N = 0, H = 0, C the bit shifted out. -/
def rotateSelector (k : RotKind) (i : Sel8) (s : State) : Outcome :=
  let v := readSel i s
  let res := rotByte k v.1 s.flagC
  .next ((writeSel i res v.2).setFlags (decide (res = 0)) false false (rotCarry k v.1))

/-- BIT (R241, R242): Z is the inverted bit, N = 0, H = 1; C unchanged, nothing written. -/
def testBit (b : Fin 8) (i : Sel8) (s : State) : Outcome :=
  let v := readSel i s
  .next (v.2.setFlags (!v.1.getLsbD b.val) false true s.flagC)

/-- RES (R243, R244): no flag; memory is written even when the value does not change. -/
def resetBit (b : Fin 8) (i : Sel8) (s : State) : Outcome :=
  let v := readSel i s
  .next (writeSel i (v.1 &&& (0xFF ^^^ bitMask b)) v.2)

/-- SET (R245, R246): no flag; memory is written even when the value does not change. -/
def setBit (b : Fin 8) (i : Sel8) (s : State) : Outcome :=
  let v := readSel i s
  .next (writeSel i (v.1 ||| bitMask b) v.2)

/-- RLCA (R221). -/
def execRlca (s : State) : Outcome := rotateA .rlc s

/-- RRCA (R222). -/
def execRrca (s : State) : Outcome := rotateA .rrc s

/-- RLA (R223). -/
def execRla (s : State) : Outcome := rotateA .rl s

/-- RRA (R224). -/
def execRra (s : State) : Outcome := rotateA .rr s

/-- RLC B (R225). -/
def execRlc_B (s : State) : Outcome := rotateSelector .rlc (.reg .B) s

/-- RLC C (R225). -/
def execRlc_C (s : State) : Outcome := rotateSelector .rlc (.reg .C) s

/-- RLC D (R225). -/
def execRlc_D (s : State) : Outcome := rotateSelector .rlc (.reg .D) s

/-- RLC E (R225). -/
def execRlc_E (s : State) : Outcome := rotateSelector .rlc (.reg .E) s

/-- RLC H (R225). -/
def execRlc_H (s : State) : Outcome := rotateSelector .rlc (.reg .H) s

/-- RLC L (R225). -/
def execRlc_L (s : State) : Outcome := rotateSelector .rlc (.reg .L) s

/-- RLC (HL) (R226). -/
def execRlc_atHL (s : State) : Outcome := rotateSelector .rlc .atHL s

/-- RLC A (R225). -/
def execRlc_A (s : State) : Outcome := rotateSelector .rlc (.reg .A) s

/-- RRC B (R227). -/
def execRrc_B (s : State) : Outcome := rotateSelector .rrc (.reg .B) s

/-- RRC C (R227). -/
def execRrc_C (s : State) : Outcome := rotateSelector .rrc (.reg .C) s

/-- RRC D (R227). -/
def execRrc_D (s : State) : Outcome := rotateSelector .rrc (.reg .D) s

/-- RRC E (R227). -/
def execRrc_E (s : State) : Outcome := rotateSelector .rrc (.reg .E) s

/-- RRC H (R227). -/
def execRrc_H (s : State) : Outcome := rotateSelector .rrc (.reg .H) s

/-- RRC L (R227). -/
def execRrc_L (s : State) : Outcome := rotateSelector .rrc (.reg .L) s

/-- RRC (HL) (R228). -/
def execRrc_atHL (s : State) : Outcome := rotateSelector .rrc .atHL s

/-- RRC A (R227). -/
def execRrc_A (s : State) : Outcome := rotateSelector .rrc (.reg .A) s

/-- RL B (R229). -/
def execRl_B (s : State) : Outcome := rotateSelector .rl (.reg .B) s

/-- RL C (R229). -/
def execRl_C (s : State) : Outcome := rotateSelector .rl (.reg .C) s

/-- RL D (R229). -/
def execRl_D (s : State) : Outcome := rotateSelector .rl (.reg .D) s

/-- RL E (R229). -/
def execRl_E (s : State) : Outcome := rotateSelector .rl (.reg .E) s

/-- RL H (R229). -/
def execRl_H (s : State) : Outcome := rotateSelector .rl (.reg .H) s

/-- RL L (R229). -/
def execRl_L (s : State) : Outcome := rotateSelector .rl (.reg .L) s

/-- RL (HL) (R230). -/
def execRl_atHL (s : State) : Outcome := rotateSelector .rl .atHL s

/-- RL A (R229). -/
def execRl_A (s : State) : Outcome := rotateSelector .rl (.reg .A) s

/-- RR B (R231). -/
def execRr_B (s : State) : Outcome := rotateSelector .rr (.reg .B) s

/-- RR C (R231). -/
def execRr_C (s : State) : Outcome := rotateSelector .rr (.reg .C) s

/-- RR D (R231). -/
def execRr_D (s : State) : Outcome := rotateSelector .rr (.reg .D) s

/-- RR E (R231). -/
def execRr_E (s : State) : Outcome := rotateSelector .rr (.reg .E) s

/-- RR H (R231). -/
def execRr_H (s : State) : Outcome := rotateSelector .rr (.reg .H) s

/-- RR L (R231). -/
def execRr_L (s : State) : Outcome := rotateSelector .rr (.reg .L) s

/-- RR (HL) (R232). -/
def execRr_atHL (s : State) : Outcome := rotateSelector .rr .atHL s

/-- RR A (R231). -/
def execRr_A (s : State) : Outcome := rotateSelector .rr (.reg .A) s

/-- SLA B (R233). -/
def execSla_B (s : State) : Outcome := rotateSelector .sla (.reg .B) s

/-- SLA C (R233). -/
def execSla_C (s : State) : Outcome := rotateSelector .sla (.reg .C) s

/-- SLA D (R233). -/
def execSla_D (s : State) : Outcome := rotateSelector .sla (.reg .D) s

/-- SLA E (R233). -/
def execSla_E (s : State) : Outcome := rotateSelector .sla (.reg .E) s

/-- SLA H (R233). -/
def execSla_H (s : State) : Outcome := rotateSelector .sla (.reg .H) s

/-- SLA L (R233). -/
def execSla_L (s : State) : Outcome := rotateSelector .sla (.reg .L) s

/-- SLA (HL) (R234). -/
def execSla_atHL (s : State) : Outcome := rotateSelector .sla .atHL s

/-- SLA A (R233). -/
def execSla_A (s : State) : Outcome := rotateSelector .sla (.reg .A) s

/-- SRA B (R235). -/
def execSra_B (s : State) : Outcome := rotateSelector .sra (.reg .B) s

/-- SRA C (R235). -/
def execSra_C (s : State) : Outcome := rotateSelector .sra (.reg .C) s

/-- SRA D (R235). -/
def execSra_D (s : State) : Outcome := rotateSelector .sra (.reg .D) s

/-- SRA E (R235). -/
def execSra_E (s : State) : Outcome := rotateSelector .sra (.reg .E) s

/-- SRA H (R235). -/
def execSra_H (s : State) : Outcome := rotateSelector .sra (.reg .H) s

/-- SRA L (R235). -/
def execSra_L (s : State) : Outcome := rotateSelector .sra (.reg .L) s

/-- SRA (HL) (R236). -/
def execSra_atHL (s : State) : Outcome := rotateSelector .sra .atHL s

/-- SRA A (R235). -/
def execSra_A (s : State) : Outcome := rotateSelector .sra (.reg .A) s

/-- SWAP B (R237). -/
def execSwap_B (s : State) : Outcome := rotateSelector .swap (.reg .B) s

/-- SWAP C (R237). -/
def execSwap_C (s : State) : Outcome := rotateSelector .swap (.reg .C) s

/-- SWAP D (R237). -/
def execSwap_D (s : State) : Outcome := rotateSelector .swap (.reg .D) s

/-- SWAP E (R237). -/
def execSwap_E (s : State) : Outcome := rotateSelector .swap (.reg .E) s

/-- SWAP H (R237). -/
def execSwap_H (s : State) : Outcome := rotateSelector .swap (.reg .H) s

/-- SWAP L (R237). -/
def execSwap_L (s : State) : Outcome := rotateSelector .swap (.reg .L) s

/-- SWAP (HL) (R238). -/
def execSwap_atHL (s : State) : Outcome := rotateSelector .swap .atHL s

/-- SWAP A (R237). -/
def execSwap_A (s : State) : Outcome := rotateSelector .swap (.reg .A) s

/-- SRL B (R239). -/
def execSrl_B (s : State) : Outcome := rotateSelector .srl (.reg .B) s

/-- SRL C (R239). -/
def execSrl_C (s : State) : Outcome := rotateSelector .srl (.reg .C) s

/-- SRL D (R239). -/
def execSrl_D (s : State) : Outcome := rotateSelector .srl (.reg .D) s

/-- SRL E (R239). -/
def execSrl_E (s : State) : Outcome := rotateSelector .srl (.reg .E) s

/-- SRL H (R239). -/
def execSrl_H (s : State) : Outcome := rotateSelector .srl (.reg .H) s

/-- SRL L (R239). -/
def execSrl_L (s : State) : Outcome := rotateSelector .srl (.reg .L) s

/-- SRL (HL) (R240). -/
def execSrl_atHL (s : State) : Outcome := rotateSelector .srl .atHL s

/-- SRL A (R239). -/
def execSrl_A (s : State) : Outcome := rotateSelector .srl (.reg .A) s

/-- BIT 0,B (R241). -/
def execBit_0_B (s : State) : Outcome := testBit 0 (.reg .B) s

/-- BIT 0,C (R241). -/
def execBit_0_C (s : State) : Outcome := testBit 0 (.reg .C) s

/-- BIT 0,D (R241). -/
def execBit_0_D (s : State) : Outcome := testBit 0 (.reg .D) s

/-- BIT 0,E (R241). -/
def execBit_0_E (s : State) : Outcome := testBit 0 (.reg .E) s

/-- BIT 0,H (R241). -/
def execBit_0_H (s : State) : Outcome := testBit 0 (.reg .H) s

/-- BIT 0,L (R241). -/
def execBit_0_L (s : State) : Outcome := testBit 0 (.reg .L) s

/-- BIT 0,(HL) (R242). -/
def execBit_0_atHL (s : State) : Outcome := testBit 0 .atHL s

/-- BIT 0,A (R241). -/
def execBit_0_A (s : State) : Outcome := testBit 0 (.reg .A) s

/-- BIT 1,B (R241). -/
def execBit_1_B (s : State) : Outcome := testBit 1 (.reg .B) s

/-- BIT 1,C (R241). -/
def execBit_1_C (s : State) : Outcome := testBit 1 (.reg .C) s

/-- BIT 1,D (R241). -/
def execBit_1_D (s : State) : Outcome := testBit 1 (.reg .D) s

/-- BIT 1,E (R241). -/
def execBit_1_E (s : State) : Outcome := testBit 1 (.reg .E) s

/-- BIT 1,H (R241). -/
def execBit_1_H (s : State) : Outcome := testBit 1 (.reg .H) s

/-- BIT 1,L (R241). -/
def execBit_1_L (s : State) : Outcome := testBit 1 (.reg .L) s

/-- BIT 1,(HL) (R242). -/
def execBit_1_atHL (s : State) : Outcome := testBit 1 .atHL s

/-- BIT 1,A (R241). -/
def execBit_1_A (s : State) : Outcome := testBit 1 (.reg .A) s

/-- BIT 2,B (R241). -/
def execBit_2_B (s : State) : Outcome := testBit 2 (.reg .B) s

/-- BIT 2,C (R241). -/
def execBit_2_C (s : State) : Outcome := testBit 2 (.reg .C) s

/-- BIT 2,D (R241). -/
def execBit_2_D (s : State) : Outcome := testBit 2 (.reg .D) s

/-- BIT 2,E (R241). -/
def execBit_2_E (s : State) : Outcome := testBit 2 (.reg .E) s

/-- BIT 2,H (R241). -/
def execBit_2_H (s : State) : Outcome := testBit 2 (.reg .H) s

/-- BIT 2,L (R241). -/
def execBit_2_L (s : State) : Outcome := testBit 2 (.reg .L) s

/-- BIT 2,(HL) (R242). -/
def execBit_2_atHL (s : State) : Outcome := testBit 2 .atHL s

/-- BIT 2,A (R241). -/
def execBit_2_A (s : State) : Outcome := testBit 2 (.reg .A) s

/-- BIT 3,B (R241). -/
def execBit_3_B (s : State) : Outcome := testBit 3 (.reg .B) s

/-- BIT 3,C (R241). -/
def execBit_3_C (s : State) : Outcome := testBit 3 (.reg .C) s

/-- BIT 3,D (R241). -/
def execBit_3_D (s : State) : Outcome := testBit 3 (.reg .D) s

/-- BIT 3,E (R241). -/
def execBit_3_E (s : State) : Outcome := testBit 3 (.reg .E) s

/-- BIT 3,H (R241). -/
def execBit_3_H (s : State) : Outcome := testBit 3 (.reg .H) s

/-- BIT 3,L (R241). -/
def execBit_3_L (s : State) : Outcome := testBit 3 (.reg .L) s

/-- BIT 3,(HL) (R242). -/
def execBit_3_atHL (s : State) : Outcome := testBit 3 .atHL s

/-- BIT 3,A (R241). -/
def execBit_3_A (s : State) : Outcome := testBit 3 (.reg .A) s

/-- BIT 4,B (R241). -/
def execBit_4_B (s : State) : Outcome := testBit 4 (.reg .B) s

/-- BIT 4,C (R241). -/
def execBit_4_C (s : State) : Outcome := testBit 4 (.reg .C) s

/-- BIT 4,D (R241). -/
def execBit_4_D (s : State) : Outcome := testBit 4 (.reg .D) s

/-- BIT 4,E (R241). -/
def execBit_4_E (s : State) : Outcome := testBit 4 (.reg .E) s

/-- BIT 4,H (R241). -/
def execBit_4_H (s : State) : Outcome := testBit 4 (.reg .H) s

/-- BIT 4,L (R241). -/
def execBit_4_L (s : State) : Outcome := testBit 4 (.reg .L) s

/-- BIT 4,(HL) (R242). -/
def execBit_4_atHL (s : State) : Outcome := testBit 4 .atHL s

/-- BIT 4,A (R241). -/
def execBit_4_A (s : State) : Outcome := testBit 4 (.reg .A) s

/-- BIT 5,B (R241). -/
def execBit_5_B (s : State) : Outcome := testBit 5 (.reg .B) s

/-- BIT 5,C (R241). -/
def execBit_5_C (s : State) : Outcome := testBit 5 (.reg .C) s

/-- BIT 5,D (R241). -/
def execBit_5_D (s : State) : Outcome := testBit 5 (.reg .D) s

/-- BIT 5,E (R241). -/
def execBit_5_E (s : State) : Outcome := testBit 5 (.reg .E) s

/-- BIT 5,H (R241). -/
def execBit_5_H (s : State) : Outcome := testBit 5 (.reg .H) s

/-- BIT 5,L (R241). -/
def execBit_5_L (s : State) : Outcome := testBit 5 (.reg .L) s

/-- BIT 5,(HL) (R242). -/
def execBit_5_atHL (s : State) : Outcome := testBit 5 .atHL s

/-- BIT 5,A (R241). -/
def execBit_5_A (s : State) : Outcome := testBit 5 (.reg .A) s

/-- BIT 6,B (R241). -/
def execBit_6_B (s : State) : Outcome := testBit 6 (.reg .B) s

/-- BIT 6,C (R241). -/
def execBit_6_C (s : State) : Outcome := testBit 6 (.reg .C) s

/-- BIT 6,D (R241). -/
def execBit_6_D (s : State) : Outcome := testBit 6 (.reg .D) s

/-- BIT 6,E (R241). -/
def execBit_6_E (s : State) : Outcome := testBit 6 (.reg .E) s

/-- BIT 6,H (R241). -/
def execBit_6_H (s : State) : Outcome := testBit 6 (.reg .H) s

/-- BIT 6,L (R241). -/
def execBit_6_L (s : State) : Outcome := testBit 6 (.reg .L) s

/-- BIT 6,(HL) (R242). -/
def execBit_6_atHL (s : State) : Outcome := testBit 6 .atHL s

/-- BIT 6,A (R241). -/
def execBit_6_A (s : State) : Outcome := testBit 6 (.reg .A) s

/-- BIT 7,B (R241). -/
def execBit_7_B (s : State) : Outcome := testBit 7 (.reg .B) s

/-- BIT 7,C (R241). -/
def execBit_7_C (s : State) : Outcome := testBit 7 (.reg .C) s

/-- BIT 7,D (R241). -/
def execBit_7_D (s : State) : Outcome := testBit 7 (.reg .D) s

/-- BIT 7,E (R241). -/
def execBit_7_E (s : State) : Outcome := testBit 7 (.reg .E) s

/-- BIT 7,H (R241). -/
def execBit_7_H (s : State) : Outcome := testBit 7 (.reg .H) s

/-- BIT 7,L (R241). -/
def execBit_7_L (s : State) : Outcome := testBit 7 (.reg .L) s

/-- BIT 7,(HL) (R242). -/
def execBit_7_atHL (s : State) : Outcome := testBit 7 .atHL s

/-- BIT 7,A (R241). -/
def execBit_7_A (s : State) : Outcome := testBit 7 (.reg .A) s

/-- RES 0,B (R243). -/
def execRes_0_B (s : State) : Outcome := resetBit 0 (.reg .B) s

/-- RES 0,C (R243). -/
def execRes_0_C (s : State) : Outcome := resetBit 0 (.reg .C) s

/-- RES 0,D (R243). -/
def execRes_0_D (s : State) : Outcome := resetBit 0 (.reg .D) s

/-- RES 0,E (R243). -/
def execRes_0_E (s : State) : Outcome := resetBit 0 (.reg .E) s

/-- RES 0,H (R243). -/
def execRes_0_H (s : State) : Outcome := resetBit 0 (.reg .H) s

/-- RES 0,L (R243). -/
def execRes_0_L (s : State) : Outcome := resetBit 0 (.reg .L) s

/-- RES 0,(HL) (R244). -/
def execRes_0_atHL (s : State) : Outcome := resetBit 0 .atHL s

/-- RES 0,A (R243). -/
def execRes_0_A (s : State) : Outcome := resetBit 0 (.reg .A) s

/-- RES 1,B (R243). -/
def execRes_1_B (s : State) : Outcome := resetBit 1 (.reg .B) s

/-- RES 1,C (R243). -/
def execRes_1_C (s : State) : Outcome := resetBit 1 (.reg .C) s

/-- RES 1,D (R243). -/
def execRes_1_D (s : State) : Outcome := resetBit 1 (.reg .D) s

/-- RES 1,E (R243). -/
def execRes_1_E (s : State) : Outcome := resetBit 1 (.reg .E) s

/-- RES 1,H (R243). -/
def execRes_1_H (s : State) : Outcome := resetBit 1 (.reg .H) s

/-- RES 1,L (R243). -/
def execRes_1_L (s : State) : Outcome := resetBit 1 (.reg .L) s

/-- RES 1,(HL) (R244). -/
def execRes_1_atHL (s : State) : Outcome := resetBit 1 .atHL s

/-- RES 1,A (R243). -/
def execRes_1_A (s : State) : Outcome := resetBit 1 (.reg .A) s

/-- RES 2,B (R243). -/
def execRes_2_B (s : State) : Outcome := resetBit 2 (.reg .B) s

/-- RES 2,C (R243). -/
def execRes_2_C (s : State) : Outcome := resetBit 2 (.reg .C) s

/-- RES 2,D (R243). -/
def execRes_2_D (s : State) : Outcome := resetBit 2 (.reg .D) s

/-- RES 2,E (R243). -/
def execRes_2_E (s : State) : Outcome := resetBit 2 (.reg .E) s

/-- RES 2,H (R243). -/
def execRes_2_H (s : State) : Outcome := resetBit 2 (.reg .H) s

/-- RES 2,L (R243). -/
def execRes_2_L (s : State) : Outcome := resetBit 2 (.reg .L) s

/-- RES 2,(HL) (R244). -/
def execRes_2_atHL (s : State) : Outcome := resetBit 2 .atHL s

/-- RES 2,A (R243). -/
def execRes_2_A (s : State) : Outcome := resetBit 2 (.reg .A) s

/-- RES 3,B (R243). -/
def execRes_3_B (s : State) : Outcome := resetBit 3 (.reg .B) s

/-- RES 3,C (R243). -/
def execRes_3_C (s : State) : Outcome := resetBit 3 (.reg .C) s

/-- RES 3,D (R243). -/
def execRes_3_D (s : State) : Outcome := resetBit 3 (.reg .D) s

/-- RES 3,E (R243). -/
def execRes_3_E (s : State) : Outcome := resetBit 3 (.reg .E) s

/-- RES 3,H (R243). -/
def execRes_3_H (s : State) : Outcome := resetBit 3 (.reg .H) s

/-- RES 3,L (R243). -/
def execRes_3_L (s : State) : Outcome := resetBit 3 (.reg .L) s

/-- RES 3,(HL) (R244). -/
def execRes_3_atHL (s : State) : Outcome := resetBit 3 .atHL s

/-- RES 3,A (R243). -/
def execRes_3_A (s : State) : Outcome := resetBit 3 (.reg .A) s

/-- RES 4,B (R243). -/
def execRes_4_B (s : State) : Outcome := resetBit 4 (.reg .B) s

/-- RES 4,C (R243). -/
def execRes_4_C (s : State) : Outcome := resetBit 4 (.reg .C) s

/-- RES 4,D (R243). -/
def execRes_4_D (s : State) : Outcome := resetBit 4 (.reg .D) s

/-- RES 4,E (R243). -/
def execRes_4_E (s : State) : Outcome := resetBit 4 (.reg .E) s

/-- RES 4,H (R243). -/
def execRes_4_H (s : State) : Outcome := resetBit 4 (.reg .H) s

/-- RES 4,L (R243). -/
def execRes_4_L (s : State) : Outcome := resetBit 4 (.reg .L) s

/-- RES 4,(HL) (R244). -/
def execRes_4_atHL (s : State) : Outcome := resetBit 4 .atHL s

/-- RES 4,A (R243). -/
def execRes_4_A (s : State) : Outcome := resetBit 4 (.reg .A) s

/-- RES 5,B (R243). -/
def execRes_5_B (s : State) : Outcome := resetBit 5 (.reg .B) s

/-- RES 5,C (R243). -/
def execRes_5_C (s : State) : Outcome := resetBit 5 (.reg .C) s

/-- RES 5,D (R243). -/
def execRes_5_D (s : State) : Outcome := resetBit 5 (.reg .D) s

/-- RES 5,E (R243). -/
def execRes_5_E (s : State) : Outcome := resetBit 5 (.reg .E) s

/-- RES 5,H (R243). -/
def execRes_5_H (s : State) : Outcome := resetBit 5 (.reg .H) s

/-- RES 5,L (R243). -/
def execRes_5_L (s : State) : Outcome := resetBit 5 (.reg .L) s

/-- RES 5,(HL) (R244). -/
def execRes_5_atHL (s : State) : Outcome := resetBit 5 .atHL s

/-- RES 5,A (R243). -/
def execRes_5_A (s : State) : Outcome := resetBit 5 (.reg .A) s

/-- RES 6,B (R243). -/
def execRes_6_B (s : State) : Outcome := resetBit 6 (.reg .B) s

/-- RES 6,C (R243). -/
def execRes_6_C (s : State) : Outcome := resetBit 6 (.reg .C) s

/-- RES 6,D (R243). -/
def execRes_6_D (s : State) : Outcome := resetBit 6 (.reg .D) s

/-- RES 6,E (R243). -/
def execRes_6_E (s : State) : Outcome := resetBit 6 (.reg .E) s

/-- RES 6,H (R243). -/
def execRes_6_H (s : State) : Outcome := resetBit 6 (.reg .H) s

/-- RES 6,L (R243). -/
def execRes_6_L (s : State) : Outcome := resetBit 6 (.reg .L) s

/-- RES 6,(HL) (R244). -/
def execRes_6_atHL (s : State) : Outcome := resetBit 6 .atHL s

/-- RES 6,A (R243). -/
def execRes_6_A (s : State) : Outcome := resetBit 6 (.reg .A) s

/-- RES 7,B (R243). -/
def execRes_7_B (s : State) : Outcome := resetBit 7 (.reg .B) s

/-- RES 7,C (R243). -/
def execRes_7_C (s : State) : Outcome := resetBit 7 (.reg .C) s

/-- RES 7,D (R243). -/
def execRes_7_D (s : State) : Outcome := resetBit 7 (.reg .D) s

/-- RES 7,E (R243). -/
def execRes_7_E (s : State) : Outcome := resetBit 7 (.reg .E) s

/-- RES 7,H (R243). -/
def execRes_7_H (s : State) : Outcome := resetBit 7 (.reg .H) s

/-- RES 7,L (R243). -/
def execRes_7_L (s : State) : Outcome := resetBit 7 (.reg .L) s

/-- RES 7,(HL) (R244). -/
def execRes_7_atHL (s : State) : Outcome := resetBit 7 .atHL s

/-- RES 7,A (R243). -/
def execRes_7_A (s : State) : Outcome := resetBit 7 (.reg .A) s

/-- SET 0,B (R245). -/
def execSet_0_B (s : State) : Outcome := setBit 0 (.reg .B) s

/-- SET 0,C (R245). -/
def execSet_0_C (s : State) : Outcome := setBit 0 (.reg .C) s

/-- SET 0,D (R245). -/
def execSet_0_D (s : State) : Outcome := setBit 0 (.reg .D) s

/-- SET 0,E (R245). -/
def execSet_0_E (s : State) : Outcome := setBit 0 (.reg .E) s

/-- SET 0,H (R245). -/
def execSet_0_H (s : State) : Outcome := setBit 0 (.reg .H) s

/-- SET 0,L (R245). -/
def execSet_0_L (s : State) : Outcome := setBit 0 (.reg .L) s

/-- SET 0,(HL) (R246). -/
def execSet_0_atHL (s : State) : Outcome := setBit 0 .atHL s

/-- SET 0,A (R245). -/
def execSet_0_A (s : State) : Outcome := setBit 0 (.reg .A) s

/-- SET 1,B (R245). -/
def execSet_1_B (s : State) : Outcome := setBit 1 (.reg .B) s

/-- SET 1,C (R245). -/
def execSet_1_C (s : State) : Outcome := setBit 1 (.reg .C) s

/-- SET 1,D (R245). -/
def execSet_1_D (s : State) : Outcome := setBit 1 (.reg .D) s

/-- SET 1,E (R245). -/
def execSet_1_E (s : State) : Outcome := setBit 1 (.reg .E) s

/-- SET 1,H (R245). -/
def execSet_1_H (s : State) : Outcome := setBit 1 (.reg .H) s

/-- SET 1,L (R245). -/
def execSet_1_L (s : State) : Outcome := setBit 1 (.reg .L) s

/-- SET 1,(HL) (R246). -/
def execSet_1_atHL (s : State) : Outcome := setBit 1 .atHL s

/-- SET 1,A (R245). -/
def execSet_1_A (s : State) : Outcome := setBit 1 (.reg .A) s

/-- SET 2,B (R245). -/
def execSet_2_B (s : State) : Outcome := setBit 2 (.reg .B) s

/-- SET 2,C (R245). -/
def execSet_2_C (s : State) : Outcome := setBit 2 (.reg .C) s

/-- SET 2,D (R245). -/
def execSet_2_D (s : State) : Outcome := setBit 2 (.reg .D) s

/-- SET 2,E (R245). -/
def execSet_2_E (s : State) : Outcome := setBit 2 (.reg .E) s

/-- SET 2,H (R245). -/
def execSet_2_H (s : State) : Outcome := setBit 2 (.reg .H) s

/-- SET 2,L (R245). -/
def execSet_2_L (s : State) : Outcome := setBit 2 (.reg .L) s

/-- SET 2,(HL) (R246). -/
def execSet_2_atHL (s : State) : Outcome := setBit 2 .atHL s

/-- SET 2,A (R245). -/
def execSet_2_A (s : State) : Outcome := setBit 2 (.reg .A) s

/-- SET 3,B (R245). -/
def execSet_3_B (s : State) : Outcome := setBit 3 (.reg .B) s

/-- SET 3,C (R245). -/
def execSet_3_C (s : State) : Outcome := setBit 3 (.reg .C) s

/-- SET 3,D (R245). -/
def execSet_3_D (s : State) : Outcome := setBit 3 (.reg .D) s

/-- SET 3,E (R245). -/
def execSet_3_E (s : State) : Outcome := setBit 3 (.reg .E) s

/-- SET 3,H (R245). -/
def execSet_3_H (s : State) : Outcome := setBit 3 (.reg .H) s

/-- SET 3,L (R245). -/
def execSet_3_L (s : State) : Outcome := setBit 3 (.reg .L) s

/-- SET 3,(HL) (R246). -/
def execSet_3_atHL (s : State) : Outcome := setBit 3 .atHL s

/-- SET 3,A (R245). -/
def execSet_3_A (s : State) : Outcome := setBit 3 (.reg .A) s

/-- SET 4,B (R245). -/
def execSet_4_B (s : State) : Outcome := setBit 4 (.reg .B) s

/-- SET 4,C (R245). -/
def execSet_4_C (s : State) : Outcome := setBit 4 (.reg .C) s

/-- SET 4,D (R245). -/
def execSet_4_D (s : State) : Outcome := setBit 4 (.reg .D) s

/-- SET 4,E (R245). -/
def execSet_4_E (s : State) : Outcome := setBit 4 (.reg .E) s

/-- SET 4,H (R245). -/
def execSet_4_H (s : State) : Outcome := setBit 4 (.reg .H) s

/-- SET 4,L (R245). -/
def execSet_4_L (s : State) : Outcome := setBit 4 (.reg .L) s

/-- SET 4,(HL) (R246). -/
def execSet_4_atHL (s : State) : Outcome := setBit 4 .atHL s

/-- SET 4,A (R245). -/
def execSet_4_A (s : State) : Outcome := setBit 4 (.reg .A) s

/-- SET 5,B (R245). -/
def execSet_5_B (s : State) : Outcome := setBit 5 (.reg .B) s

/-- SET 5,C (R245). -/
def execSet_5_C (s : State) : Outcome := setBit 5 (.reg .C) s

/-- SET 5,D (R245). -/
def execSet_5_D (s : State) : Outcome := setBit 5 (.reg .D) s

/-- SET 5,E (R245). -/
def execSet_5_E (s : State) : Outcome := setBit 5 (.reg .E) s

/-- SET 5,H (R245). -/
def execSet_5_H (s : State) : Outcome := setBit 5 (.reg .H) s

/-- SET 5,L (R245). -/
def execSet_5_L (s : State) : Outcome := setBit 5 (.reg .L) s

/-- SET 5,(HL) (R246). -/
def execSet_5_atHL (s : State) : Outcome := setBit 5 .atHL s

/-- SET 5,A (R245). -/
def execSet_5_A (s : State) : Outcome := setBit 5 (.reg .A) s

/-- SET 6,B (R245). -/
def execSet_6_B (s : State) : Outcome := setBit 6 (.reg .B) s

/-- SET 6,C (R245). -/
def execSet_6_C (s : State) : Outcome := setBit 6 (.reg .C) s

/-- SET 6,D (R245). -/
def execSet_6_D (s : State) : Outcome := setBit 6 (.reg .D) s

/-- SET 6,E (R245). -/
def execSet_6_E (s : State) : Outcome := setBit 6 (.reg .E) s

/-- SET 6,H (R245). -/
def execSet_6_H (s : State) : Outcome := setBit 6 (.reg .H) s

/-- SET 6,L (R245). -/
def execSet_6_L (s : State) : Outcome := setBit 6 (.reg .L) s

/-- SET 6,(HL) (R246). -/
def execSet_6_atHL (s : State) : Outcome := setBit 6 .atHL s

/-- SET 6,A (R245). -/
def execSet_6_A (s : State) : Outcome := setBit 6 (.reg .A) s

/-- SET 7,B (R245). -/
def execSet_7_B (s : State) : Outcome := setBit 7 (.reg .B) s

/-- SET 7,C (R245). -/
def execSet_7_C (s : State) : Outcome := setBit 7 (.reg .C) s

/-- SET 7,D (R245). -/
def execSet_7_D (s : State) : Outcome := setBit 7 (.reg .D) s

/-- SET 7,E (R245). -/
def execSet_7_E (s : State) : Outcome := setBit 7 (.reg .E) s

/-- SET 7,H (R245). -/
def execSet_7_H (s : State) : Outcome := setBit 7 (.reg .H) s

/-- SET 7,L (R245). -/
def execSet_7_L (s : State) : Outcome := setBit 7 (.reg .L) s

/-- SET 7,(HL) (R246). -/
def execSet_7_atHL (s : State) : Outcome := setBit 7 .atHL s

/-- SET 7,A (R245). -/
def execSet_7_A (s : State) : Outcome := setBit 7 (.reg .A) s

end Sys2Proof.Machine
end

