-- ==== Sys2Proof/Machine/Prefix.lean ====
section
/-! DEFINITION. The escape row PREFIX_CB (spec 42_dispatch_system.md R158; assumption 10). -/

namespace Sys2Proof.Machine

/-- The extended entry for `op2` runs (R158; 30_encoding.md R99), by the fields of `op2`. -/
def extendedEntry (op2 : Byte) (s : State) : Outcome :=
  match fieldX op2 with
  | 0 => rotateSelector (rotKindOfField (fieldY op2)) (sel8OfField (fieldZ op2)) s
  | 1 => testBit (fieldY op2) (sel8OfField (fieldZ op2)) s
  | 2 => resetBit (fieldY op2) (sel8OfField (fieldZ op2)) s
  | 3 => setBit (fieldY op2) (sel8OfField (fieldZ op2)) s

/-- PREFIX CB (R158). -/
def execPrefixCb (op2 : Byte) (s : State) : Outcome := extendedEntry op2 s

end Sys2Proof.Machine
end

