-- ==== Sys2Proof/Machine/System.lean ====
section
/-! DEFINITION. The system instructions and the undefined opcodes (spec 42_dispatch_system.md R153 to R157, R159): the shared
operations, then one meaning per instruction. -/

namespace Sys2Proof.Machine

/-- Nothing: PC was advanced by the fetch (R153 NOP, R155 STOP). -/
def noOperation (s : State) : Outcome := .next s

/-- `halted <- true` (R154). -/
def enterHalt (s : State) : Outcome := .next { s with halted := true }

/-- `IME <- v` in this step (R156, R157). -/
def writeIme (v : Bool) (s : State) : Outcome := .next { s with ime := v }

/-- An undefined opcode takes the decode fault (R159); PC stands one past the byte, which is the only one fetched. -/
def undefinedOpcode (op : Byte) (s : State) : Outcome := .next (raiseDecodeFault op (s.pc - 1) s)

/-- NOP (R153). -/
def execNop (s : State) : Outcome := noOperation s

/-- STOP (R155). -/
def execStop (s : State) : Outcome := noOperation s

/-- HALT (R154). -/
def execHalt (s : State) : Outcome := enterHalt s

/-- UNDEFINED (R159). -/
def execUndefined (op : Byte) (s : State) : Outcome := undefinedOpcode op s

/-- DI (R156). -/
def execDi (s : State) : Outcome := writeIme false s

/-- EI (R157). -/
def execEi (s : State) : Outcome := writeIme true s

end Sys2Proof.Machine
end

