-- ==== Sys2Proof/Machine/Fetch.lean ====
section
/-! DEFINITION. Fetching an instruction's bytes, and the parts of a step around its instruction (spec 00_scope.md R8;
42_dispatch_system.md R150 to R152). -/

namespace Sys2Proof.Machine

/-- `fetch8()` (00_scope.md R8): one bus read at PC, then PC + 1 modulo 65536. -/
def fetch8 (s : State) : Byte × State :=
  let r := busRead s.pc s
  (r.1, { r.2 with pc := s.pc + 1 })

/-- `k` bytes at ascending addresses. -/
def fetchBytes (k : Nat) (s : State) : List Byte × State :=
  match k with
  | 0 => ([], s)
  | k + 1 =>
    let x := fetch8 s
    let rest := fetchBytes k x.2
    (x.1 :: rest.1, rest.2)

/-- The bytes of the instruction at PC: its first byte, which tells the length (30_encoding.md R102), then exactly the
others. The spec lets the entry's own operation fetch its immediates; they come before any other access of it (R152), so
the transactions are the same ones in the same order (assumption 13). -/
def fetchInstr (s : State) : List Byte × State :=
  let x := fetch8 s
  let rest := fetchBytes (instrLength x.1 - 1) x.2
  (x.1 :: rest.1, rest.2)

/-- The bytes the host stores before the next step; none when its list is at its end (20_memory.md R69). -/
def State.nextHostChange (s : State) : List (Word × Byte) := s.hostWrites.headD []

/-- A step begins once the host has made its change to the bus (20_memory.md R69), with no transaction made (assumption
6). Core state is not changed from outside (R69). -/
def beginStep (s : State) : State :=
  { s with bus := s.bus.hostChange s.nextHostChange, hostWrites := s.hostWrites.tail, busLog := [] }

/-- A halted step (R151): no transaction, no change of core state, 4 cycles returned. -/
def haltedStep (s : State) : State := { beginStep s with result := .ok Config.haltedCycles }

/-- Bytes at ascending addresses, wrapping. -/
def cellsFrom (addr : Word) (bytes : List Byte) : List (Word × Byte) :=
  match bytes with
  | [] => []
  | v :: rest => (addr, v) :: cellsFrom (addr + 1) rest

/-- A bus that holds these bytes: FlatBus with them stored; another bus, of which nothing is known, is replaced by a FlatBus
that holds them and nothing else (assumption 12). -/
def Bus.load (b : Bus) (cells : List (Word × Byte)) : Bus :=
  match b with
  | .flat policy m => .flat policy (Memory.store m cells)
  | .other _ _ => .flat Config.romWriteAtReset (Memory.store [] cells)

/-- Bytes loaded from an address up, from outside the machine. -/
def loadBytes (addr : Word) (bytes : List Byte) (s : State) : State :=
  { s with bus := s.bus.load (cellsFrom addr bytes) }

end Sys2Proof.Machine
end

