-- ==== Sys2Proof/Machine/Step.lean ====
section
/-! DEFINITION. The step (spec 42_dispatch_system.md R150): every part of it stands in the files it calls. -/

namespace Sys2Proof.Machine

/-- One fetch-decode-execute cycle (R150). No step exists while `faulted` is true (10_state.md R40; 60_exceptions.md
R283); a halted step does nothing but return 4 cycles (R151). -/
def step (s : State) : Host.Outcome State Fault Refusal :=
  if s.faulted then .fault .stuckAfterDecodeFault
  else if s.halted then .next (haltedStep s)
  else
    match decode (fetchInstr (beginStep s)).1 with
    | .ok (i, _) => mapNext (recordCycles (fetchInstr (beginStep s)).1) (exec i (fetchInstr (beginStep s)).2)
    | .error _ => .refused .undecodable

/-- The state with a table word stored at PC, from outside the machine, ready to run: the load of a program (assumption
12). A halted or faulted core fetches nothing, so both are cleared; the host changes nothing before that step. -/
def State.withFetchWord (s : State) (nbits w : Nat) : State :=
  loadBytes s.pc (tableBytes nbits w) { s with halted := false, faulted := false, hostWrites := [] :: s.hostWrites }

end Sys2Proof.Machine
end

