-- ==== Sys2Proof/Safety.lean ====
section
/-! DEFINITION. The terms the statements use: the machine's invariant, when a step runs an instruction, and what it means
that a state's flags or memory bytes are as a rule says. -/

namespace Sys2Proof.Machine

/-- The invariant of the machine: the reference bus's store is in its canonical form, and the low nibble of F is 0 (spec
10_state.md R23). -/
def State.Inv (s : State) : Prop := s.bus.wf = true ∧ s.f &&& 0x0F = 0

/-- The next step fetches an instruction (42_dispatch_system.md R150): the core is neither halted nor faulted. -/
def State.Running (s : State) : Prop := s.halted = false ∧ s.faulted = false

/-- The four flags have these values and the low nibble of F is 0 (10_state.md R23). -/
def State.FlagsAre (s : State) (z n h c : Bool) : Prop :=
  s.flagZ = z ∧ s.flagN = n ∧ s.flagH = h ∧ s.flagC = c ∧ s.f &&& 0x0F = 0

/-- Where the bus is the reference one, `t`'s memory is `s`'s but for one bus write of `v` to `addr`: that byte is `v` if
the bus keeps a write there (20_memory.md R66), and every other byte is as before. -/
def MemoryAfterWrite (s t : State) (addr : Word) (v : Byte) : Prop :=
  ∀ (policy : RomWrite) (m : Memory), s.bus = .flat policy m →
    ∀ x : Word, t.byteAt x = if x = addr ∧ keepsWrite policy addr = true then v else s.byteAt x

/-- Where the bus is the reference one, `t`'s memory is `s`'s but for two bus writes, `v1` to `addr1` and then `v2` to
`addr2`. -/
def MemoryAfterWrites (s t : State) (addr1 : Word) (v1 : Byte) (addr2 : Word) (v2 : Byte) : Prop :=
  ∀ (policy : RomWrite) (m : Memory), s.bus = .flat policy m →
    ∀ x : Word, t.byteAt x =
      if x = addr2 ∧ keepsWrite policy addr2 = true then v2
      else if x = addr1 ∧ keepsWrite policy addr1 = true then v1
      else s.byteAt x

/-- Where the bus is the reference one, every address reads in `t` as in `s`. -/
def MemoryKept (s t : State) : Prop :=
  ∀ (policy : RomWrite) (m : Memory), s.bus = .flat policy m → ∀ x : Word, t.byteAt x = s.byteAt x

/-- The byte that a bus transaction moves. -/
def BusEvent.byte (ev : BusEvent) : Byte :=
  match ev with
  | .read _ v => v
  | .write _ v => v

/-- `k` bus reads at ascending addresses (wrapping), oldest first: each finds the bus as the reads before it leave it. -/
def State.readEvents (s : State) (addr : Word) (k : Nat) : List BusEvent :=
  match k with
  | 0 => []
  | k + 1 => .read addr (s.byteAt addr) :: (s.readAt addr).readEvents (addr + 1) k

/-- The bus reads of an instruction of `k` bytes at PC (20_memory.md R57). -/
def State.fetchReads (s : State) (k : Nat) : List BusEvent := s.readEvents s.pc k

/-- The bytes at PC and the two after it, as an instruction of three bytes would read them. -/
def State.bytesAtPC (s : State) : List Byte := (s.fetchReads 3).map BusEvent.byte

/-- `t` is `s` with the register `d` holding `v` and nothing else changed. -/
def RegWritten (s t : State) (d : Reg8) (v : Byte) : Prop :=
  (∀ r : Reg8, t.reg r = if r = d then v else s.reg r) ∧
    t = { s with a := t.a, b := t.b, c := t.c, d := t.d, e := t.e, h := t.h, l := t.l }

/-- `t` is `s` with the pair `p` holding `w` and nothing else changed: the other three pairs of R30, and A, are as before. -/
def PairWritten (s t : State) (p : Pair) (w : Word) : Prop :=
  (∀ q : Pair, t.pair q = if q = p then w else s.pair q) ∧
    t = { s with b := t.b, c := t.c, d := t.d, e := t.e, h := t.h, l := t.l, sp := t.sp }

/-- One bus read at HL is the only thing that has happened (10_state.md R29, selector 6). -/
def State.afterReadAtHL (s : State) : State := s.readAt s.hl

/-- The three source forms of a binary operation (43_alu8.md R172): instruction `i` in state `s` has the source value
`v`, and `s1` is the state once that value has been read. -/
def AluSource (o : AluOp) (i : Instr) (s : State) (v : Byte) (s1 : State) : Prop :=
  (∃ r : Reg8, i = .alu o (.reg r) ∧ v = s.reg r ∧ s1 = s) ∨
    (i = .alu o .atHL ∧ v = s.byteAt s.hl ∧ s1 = s.afterReadAtHL) ∨
    (∃ n : Byte, i = .aluN o n ∧ v = n ∧ s1 = s)

/-- The result column of 45_rotate_shift_bit.md R220, in natural numbers. -/
def rotatedValue (k : RotKind) (v cin : Nat) : Nat :=
  match k with
  | .rlc => 2 * v % 256 + v / 128
  | .rrc => v / 2 + 128 * (v % 2)
  | .rl => 2 * v % 256 + cin
  | .rr => v / 2 + 128 * cin
  | .sla => 2 * v % 256
  | .sra => v / 2 + 128 * (v / 128)
  | .swap => v % 16 * 16 + v / 16
  | .srl => v / 2

/-- The carry-out column of R220: bit 7 for the left kinds, bit 0 for the right kinds, 0 for SWAP. -/
def shiftedOut (k : RotKind) (v : Nat) : Bool :=
  match k with
  | .rlc | .rl | .sla => decide (v / 128 = 1)
  | .rrc | .rr | .sra | .srl => decide (v % 2 = 1)
  | .swap => false

/-- The correction of DAA (43_alu8.md R201), in natural numbers. -/
def correctionValue (a : Nat) (n h c : Bool) : Nat :=
  (if h = true ∨ (n = false ∧ a % 16 > 0x09) then 0x06 else 0) +
    (if c = true ∨ (n = false ∧ a > 0x99) then 0x60 else 0)

/-- A packed-decimal byte: both nibbles at most 9 (R201). -/
def IsBcd (v : Byte) : Prop := v.toNat / 16 ≤ 9 ∧ v.toNat % 16 ≤ 9

/-- The number a packed-decimal byte stands for. -/
def bcdValue (v : Byte) : Nat := 10 * (v.toNat / 16) + v.toNat % 16

/-- The number of a selector value in an opcode (30_encoding.md R86). -/
def selCode (i : Sel8) : Nat :=
  match i with
  | .reg .B => 0
  | .reg .C => 1
  | .reg .D => 2
  | .reg .E => 3
  | .reg .H => 4
  | .reg .L => 5
  | .atHL => 6
  | .reg .A => 7

/-- The number of a pair (R87). -/
def pairCode (p : Pair) : Nat :=
  match p with
  | .BC => 0
  | .DE => 1
  | .HL => 2
  | .SP => 3

/-- The number of a pair of PUSH and POP (R88). -/
def stackPairCode (p : StackPair) : Nat :=
  match p with
  | .BC => 0
  | .DE => 1
  | .HL => 2
  | .AF => 3

/-- The number of a condition (R89). -/
def condCode (k : Cond) : Nat :=
  match k with
  | .NZ => 0
  | .Z => 1
  | .NC => 2
  | .C => 3

/-- The number of an ALU operation (R90). -/
def aluCode (o : AluOp) : Nat :=
  match o with
  | .add => 0
  | .adc => 1
  | .sub => 2
  | .sbc => 3
  | .and => 4
  | .xor => 5
  | .or => 6
  | .cp => 7

/-- The number of a rotate or shift kind (R91). -/
def rotCode (k : RotKind) : Nat :=
  match k with
  | .rlc => 0
  | .rrc => 1
  | .rl => 2
  | .rr => 3
  | .sla => 4
  | .sra => 5
  | .swap => 6
  | .srl => 7

/-- A condition, as a proposition about the flags (46_control_transfer.md R250). -/
def State.CondTrue (s : State) (k : Cond) : Prop :=
  match k with
  | .NZ => s.flagZ = false
  | .Z => s.flagZ = true
  | .NC => s.flagC = false
  | .C => s.flagC = true

/-- The default cycle cost of an instruction, by its words (70_reset_and_hazards.md R298). -/
def instrCost (i : Instr) : Option Nat := cycleCost defaultCycles (encode i)

/-- Two states agree on everything but what no rule reads: IME, the cycle table (70_reset_and_hazards.md R298) and the
model's output fields. -/
def State.AgreeButUnread (s t : State) : Prop :=
  t = { s with ime := t.ime, cycles := t.cycles, result := t.result, busLog := t.busLog }

end Sys2Proof.Machine
end

