-- ==== Sys2Proof/Certificates/Slice0/Obligations.lean ====
section
/-! DEFINITION. The statements about the machine, for the provers. Each docstring names the rules of spec/ it formalises.
`exec i s` runs instruction `i` when its bytes have been fetched and PC stands one past them (42_dispatch_system.md R161);
`StepRunsDecodedInstruction` carries the statements about `exec` to a step. -/

open Sys2Proof Sys2Proof.Machine

/-! The machine as a whole -/

/-- Decoding the words of a well-formed instruction, whatever bytes follow, gives the instruction back with those bytes
left over: no operand bit of any encoding is dropped (30_encoding.md R80, R82, R85, R94 to R100). -/
def Obligations.DecodeEncodeAgree : Prop :=
  ∀ (i : Instr) (rest : List Byte), wellFormed i = true → decode (encode i ++ rest) = .ok (i, rest)

/-- Whatever bytes decode to an instruction are that instruction's words and the rest, and the instruction is well-formed:
each word has one meaning (30_encoding.md R101, R105). -/
def Obligations.EncodeDecodeAgree : Prop :=
  ∀ (bytes : List Byte) (i : Instr) (rest : List Byte),
    decode bytes = .ok (i, rest) → wellFormed i = true ∧ bytes = encode i ++ rest

/-- Every step keeps the invariant, on every bus and whatever the host changes: the reference bus's store stays canonical and
the low nibble of F stays 0 (10_state.md R23). -/
def Obligations.StepKeepsInvariant : Prop :=
  ∀ s t : State, s.Inv → step s = .next t → t.Inv

/-- The reset state meets the invariant, and no latch is set in it: it runs, with IME false (10_state.md R35;
70_reset_and_hazards.md R292). The latches' values are the spec's decisions D9 and D5 (assumption 7). -/
def Obligations.ResetMeetsInvariant : Prop := State.reset.Inv ∧ State.reset.Running ∧ State.reset.ime = false

/-- Every instruction, in every state and with every operand, completes: `exec` answers a next state. It makes at most two
bus transactions of its own, and the bus is as they leave it; on the reference bus a byte of memory that changes was written
by one of them; F's low nibble stays 0; the decode fault is taken by UNDEFINED alone; the cycle table and the host's changes
stay (00_scope.md R7; 10_state.md R23; 20_memory.md R51, R59; 60_exceptions.md R271). -/
def Obligations.EveryInstructionCompletes : Prop :=
  ∀ (i : Instr) (s : State),
    ∃ t, exec i s = .next t ∧
      (∃ evs : List BusEvent, t.busLog = s.busLog ++ evs ∧ evs.length ≤ 2 ∧ t.bus = s.bus.after evs ∧
        ∀ (policy : RomWrite) (m : Memory), s.bus = .flat policy m →
          ∀ x : Word, t.byteAt x ≠ s.byteAt x → ∃ v : Byte, .write x v ∈ evs) ∧
      (s.f &&& 0x0F = 0 → t.f &&& 0x0F = 0) ∧
      (t.faulted = true ↔ s.faulted = true ∨ ∃ op : Byte, i = .undefined op) ∧
      t.cycles = s.cycles ∧ t.hostWrites = s.hostWrites

/-- Once the host has made its change (`b`), a step of a running core is the meaning of the instruction that the bytes at PC
decode to, run with PC one past its bytes and exactly its bytes read, in order; then the step returns the instruction's cost
in the cycle table (42_dispatch_system.md R150, R152, R161; 20_memory.md R57, R69; 70_reset_and_hazards.md R298; that all
bytes are fetched before the meaning runs is assumption 13). -/
def Obligations.StepRunsDecodedInstruction : Prop :=
  ∀ (s b : State) (i : Instr) (rest : List Byte), s.Running → b = beginStep s →
    decode b.bytesAtPC = .ok (i, rest) →
    step s =
      mapNext (recordCycles (encode i))
        (exec i
          { b.transact (b.fetchReads (encode i).length) with
            pc := b.pc + BitVec.ofNat 16 (encode i).length })

/-- Between two steps the host changes the bus alone, core state never (20_memory.md R69, the spec's decision D15;
assumption 4): with nothing listed the bus stays; on the reference bus the last byte listed for an address stands there and
every other byte stays; another bus receives the change. A step takes one change and leaves the cycle table. -/
def Obligations.HostChangesBetweenSteps : Prop :=
  ∀ (s b : State) (cells : List (Word × Byte)), b = beginStep s → s.nextHostChange = cells →
    b = { s with bus := b.bus, hostWrites := s.hostWrites.tail, busLog := [] } ∧
      (cells = [] → b.bus = s.bus) ∧
      (∀ (policy : RomWrite) (m : Memory), s.bus = .flat policy m →
        (∃ m', b.bus = .flat policy m') ∧ (∀ x : Word, x ∉ cells.map Prod.fst → b.byteAt x = s.byteAt x) ∧
          ∀ (before after : List (Word × Byte)) (x : Word) (v : Byte),
            cells = before ++ (x, v) :: after → x ∉ after.map Prod.fst → b.byteAt x = v) ∧
      (∀ (id : Nat) (inputs : List BusInput), s.bus = .other id inputs → cells ≠ [] →
        b.bus = .other id (inputs ++ [.hostChange cells])) ∧
      ∀ t : State, step s = .next t → t.hostWrites = s.hostWrites.tail ∧ t.cycles = s.cycles

/-- A step of a core that has not faulted always ends in a next state; no step is refused and none raises another fault
(42_dispatch_system.md R162; 60_exceptions.md R271). -/
def Obligations.StepAlwaysEnds : Prop :=
  ∀ s : State, s.faulted = false → ∃ t : State, step s = .next t

/-- Once `faulted` is true there is no next state; reset clears it and leaves the bus, the cycle table and the host alone
(10_state.md R40; 60_exceptions.md R283; 70_reset_and_hazards.md R293). That the core is stuck is the spec's decision D5. -/
def Obligations.FaultedCoreIsStuckUntilReset : Prop :=
  ∀ s : State, s.faulted = true →
    step s = .fault .stuckAfterDecodeFault ∧
      s.resetCore = { State.reset with bus := s.bus, cycles := s.cycles, hostWrites := s.hostWrites } ∧
      s.resetCore.faulted = false

/-- A step makes at most 5 bus transactions (42_dispatch_system.md R162; 90_conflicts.md C7). -/
def Obligations.StepMakesAtMostFiveTransactions : Prop :=
  ∀ s t : State, step s = .next t → t.busLog.length ≤ 5

/-- A halted step makes no bus transaction, changes no register, returns 4, and so does every later step
(42_dispatch_system.md R151; 70_reset_and_hazards.md R300); that `halted` is absorbing is the spec's decision D8. The bus
changes by the host's changes alone, one taken off the list at each step, not at all when the host makes none: that the host's
changes are this list is the model's choice, log entry 4 (P_HOST_WRITES; 20_memory.md R69, the spec's decision D15). -/
def Obligations.HaltedCoreIdlesForever : Prop :=
  ∀ s : State, s.halted = true → s.faulted = false →
    ∀ k : Nat, core.run (k + 1) s =
      .next
        { s with
          bus := (s.hostWrites.take (k + 1)).foldl Bus.hostChange s.bus
          hostWrites := s.hostWrites.drop (k + 1), result := .ok 4, busLog := [] }

/-- A step that runs an instruction ends halted exactly when the opcode was HALT's, 0x76 (10_state.md R26). -/
def Obligations.OnlyHaltSetsHalted : Prop :=
  ∀ s t : State, s.Running → step s = .next t → (t.halted = true ↔ (beginStep s).byteAt s.pc = 0x76)

/-- A step that runs an instruction leaves IME true after EI (0xFB) and RETI (0xD9), false after DI (0xF3), and as it was
after every other (10_state.md R27; 60_exceptions.md R273). -/
def Obligations.OnlyEiDiRetiWriteIme : Prop :=
  ∀ (s t : State) (op : Byte), s.Running → (beginStep s).byteAt s.pc = op → step s = .next t →
    t.ime = if op = 0xFB ∨ op = 0xD9 then true else if op = 0xF3 then false else s.ime

/-- IME gates nothing, no rule reads a cycle count, and what the last step returned is read by nothing: from two states that
differ only there, a step gives the same outcome but for IME, the table itself and the count returned; the count differs only
if the tables do, and a decode fault is recorded the same (10_state.md R27; 60_exceptions.md R273;
70_reset_and_hazards.md R298). -/
def Obligations.ImeAndOutputsGateNothing : Prop :=
  ∀ s u : State, s.AgreeButUnread u →
    (∀ t : State, step s = .next t → ∃ (b : Bool) (r : StepResult),
      step u = .next { t with ime := b, cycles := u.cycles, result := r } ∧
        (s.cycles = u.cycles → r = t.result) ∧
        ∀ (op : Byte) (addr : Word), t.result = .decodeFault op addr → r = t.result) ∧
      (∀ r : Fault, step s = .fault r → step u = .fault r)

/-- A step that fetches one of the eleven undefined opcodes ends with the decode fault: the latch is set, PC is one past
the byte, the outcome names the byte and its address, one bus read was made, nothing else changes (42_dispatch_system.md
R159; 60_exceptions.md R270, R275). The list of R100 is the spec's decision D3, the record and the state left D4. -/
def Obligations.UndefinedOpcodeTakesDecodeFault : Prop :=
  ∀ (s b : State) (op : Byte), s.Running → b = beginStep s → b.byteAt s.pc = op →
    op ∈ ([0xD3, 0xDB, 0xDD, 0xE3, 0xE4, 0xEB, 0xEC, 0xED, 0xF4, 0xFC, 0xFD] : List Byte) →
    step s =
      .next
        { b with
          pc := s.pc + 1, faulted := true, result := .decodeFault op s.pc
          bus := b.bus.after [.read s.pc op], busLog := [.read s.pc op] }

/-- Only an undefined first byte sets the latch, and only then does a step return no cycle count: every other step of a
running core returns the entry of P_CYCLES, the extended table's for an extended instruction, whatever the table holds
(60_exceptions.md R271, R274; 00_scope.md R4, R10; 42_dispatch_system.md R150, R160; 70_reset_and_hazards.md R298). -/
def Obligations.OnlyUndefinedOpcodesFault : Prop :=
  ∀ (s b t : State) (op op2 : Byte), s.Running → b = beginStep s → b.byteAt s.pc = op →
    (b.readAt s.pc).byteAt (s.pc + 1) = op2 → step s = .next t → op ∉ undefinedOpcodes →
    t.faulted = false ∧
      t.result = .ok (if op = 0xCB then s.cycles.extendedCost op2 else s.cycles.primaryCost op)

/-- What a step does to the bus is its transactions, on top of what the host changed before it: the bus it ends with is the
one they leave, on any bus; the reference bus stays one under its policy, and a byte of memory that the step changes was
written by one of its bus writes (20_memory.md R51, R57, R59). -/
def Obligations.MemoryChangesOnlyByBusWrites : Prop :=
  ∀ s b t : State, b = beginStep s → step s = .next t →
    t.bus = b.bus.after t.busLog ∧
      ∀ (policy : RomWrite) (m : Memory), b.bus = .flat policy m →
        (∃ m', t.bus = .flat policy m') ∧
          ∀ x : Word, t.byteAt x ≠ b.byteAt x → ∃ v : Byte, .write x v ∈ t.busLog

/-- On the reference bus under P_ROM_WRITE = ignore no step changes a byte below 0x8000, whatever the program does; only the
host can, before the step (20_memory.md R66, R67). -/
def Obligations.CartridgeIsReadOnlyUnderIgnore : Prop :=
  ∀ (s b t : State) (m : Memory), b = beginStep s → b.bus = .flat .ignore m → step s = .next t →
    (∃ m', t.bus = .flat .ignore m') ∧ ∀ x : Word, x.toNat < 0x8000 → t.byteAt x = b.byteAt x

/-- Any bus: a read answers what the bus answers there and is one transaction; a write is one transaction, always issued
(20_memory.md R51, R59). The reference bus: a read returns the store's byte and changes nothing; a write is kept at or above
0x8000 always and below it only under `store`, and changes no other byte (R66, the spec's decision D12). -/
def Obligations.FlatBusReadsAndWrites : Prop :=
  ∀ (s : State) (addr : Word) (v : Byte),
    busRead addr s =
        (s.byteAt addr,
          { s with
            bus := s.bus.after [.read addr (s.byteAt addr)], busLog := s.busLog ++ [.read addr (s.byteAt addr)] }) ∧
      busWrite addr v s = { s with bus := s.bus.after [.write addr v], busLog := s.busLog ++ [.write addr v] } ∧
      ∀ (policy : RomWrite) (m : Memory), s.bus = .flat policy m →
        s.byteAt addr = Memory.read m addr.toNat ∧ (busRead addr s).2.bus = s.bus ∧
          (∃ m', (busWrite addr v s).bus = .flat policy m') ∧
          ∀ x : Word, (busWrite addr v s).byteAt x =
            if x = addr ∧ (0x8000 ≤ addr.toNat ∨ policy = .store) then v else s.byteAt x

/-- The ten power-on values, the pairs they make and the flags they stand for (10_state.md R34). -/
def Obligations.ResetRegisterValues : Prop :=
  State.reset.a = 0x01 ∧ State.reset.f = 0xB0 ∧ State.reset.b = 0x00 ∧ State.reset.c = 0x13 ∧
    State.reset.d = 0x00 ∧ State.reset.e = 0xD8 ∧ State.reset.h = 0x01 ∧ State.reset.l = 0x4D ∧
    State.reset.sp = 0xFFFE ∧ State.reset.pc = 0x0100 ∧
    State.reset.af = 0x01B0 ∧ State.reset.bc = 0x0013 ∧ State.reset.de = 0x00D8 ∧ State.reset.hl = 0x014D ∧
    State.reset.flagZ = true ∧ State.reset.flagN = false ∧ State.reset.flagH = true ∧ State.reset.flagC = true

/-- A pair is a view of its two registers, high byte first; writing it writes both, AF with the low nibble of F forced to
0; writing one register changes the pair at once (10_state.md R22, R23). -/
def Obligations.PairsAreViews : Prop :=
  ∀ (s : State) (w : Word) (v : Byte),
    s.bc.toNat = s.b.toNat * 256 + s.c.toNat ∧ s.de.toNat = s.d.toNat * 256 + s.e.toNat ∧
    s.hl.toNat = s.h.toNat * 256 + s.l.toNat ∧ s.af.toNat = s.a.toNat * 256 + s.f.toNat ∧
    s.setBC w = { s with b := (s.setBC w).b, c := (s.setBC w).c } ∧ (s.setBC w).bc = w ∧
    s.setDE w = { s with d := (s.setDE w).d, e := (s.setDE w).e } ∧ (s.setDE w).de = w ∧
    s.setHL w = { s with h := (s.setHL w).h, l := (s.setHL w).l } ∧ (s.setHL w).hl = w ∧
    s.setAF w = { s with a := (s.setAF w).a, f := (s.setAF w).f } ∧ (s.setAF w).af = w &&& 0xFFF0 ∧
    (s.setReg .B v).bc.toNat = v.toNat * 256 + s.c.toNat ∧ (s.setReg .C v).bc.toNat = s.b.toNat * 256 + v.toNat ∧
    (s.setReg .D v).de.toNat = v.toNat * 256 + s.e.toNat ∧ (s.setReg .E v).de.toNat = s.d.toNat * 256 + v.toNat ∧
    (s.setReg .H v).hl.toNat = v.toNat * 256 + s.l.toNat ∧ (s.setReg .L v).hl.toNat = s.h.toNat * 256 + v.toNat ∧
    (s.setReg .A v).af.toNat = v.toNat * 256 + s.f.toNat ∧
    (s.setF v).af.toNat = s.a.toNat * 256 + (v &&& 0xF0).toNat

/-- The stack primitives: push writes the high byte at SP-1, then the low byte at SP-2, then lowers SP by 2; pop reads the
low byte at SP, then the high byte at SP+1, then raises SP by 2 (00_scope.md R9). -/
def Obligations.StackPrimitives : Prop :=
  ∀ (s : State) (v : Word) (hi lo : Byte), v.toNat = hi.toNat * 256 + lo.toNat →
    push16 v s = { s.transact [.write (s.sp - 1) hi, .write (s.sp - 2) lo] with sp := s.sp - 2 } ∧
      MemoryAfterWrites s (push16 v s) (s.sp - 1) hi (s.sp - 2) lo ∧
      ∀ lo' hi' : Byte, s.byteAt s.sp = lo' → (s.readAt s.sp).byteAt (s.sp + 1) = hi' →
        (pop16 s).1.toNat = hi'.toNat * 256 + lo'.toNat ∧
          (pop16 s).2 = { s.transact [.read s.sp lo', .read (s.sp + 1) hi'] with sp := s.sp + 2 } ∧
          MemoryKept s (pop16 s).2

/-- The addition helper (43_alu8.md R170), and with it the source's ADC law; the subtraction helper, whose flags are set when
the borrow occurs (R171). -/
def Obligations.AdditionAndSubtractionHelpers : Prop :=
  ∀ (a b : Byte) (k : Bool),
    (add8 a b k).res.toNat = (a.toNat + b.toNat + k.toNat) % 256 ∧
      ((add8 a b k).z = true ↔ (a.toNat + b.toNat + k.toNat) % 256 = 0) ∧
      ((add8 a b k).h = true ↔ (a &&& 0x0F).toNat + (b &&& 0x0F).toNat + k.toNat > 0x0F) ∧
      ((add8 a b k).c = true ↔ a.toNat + b.toNat + k.toNat > 0xFF) ∧
      (sub8 a b k).res.toNat = (a.toNat + 256 + 256 - b.toNat - k.toNat) % 256 ∧
      ((sub8 a b k).z = true ↔ (sub8 a b k).res = 0) ∧
      ((sub8 a b k).h = true ↔ (a &&& 0x0F).toNat < (b &&& 0x0F).toNat + k.toNat) ∧
      ((sub8 a b k).c = true ↔ a.toNat < b.toNat + k.toNat)

/-- The signed-offset helper: the result wraps, and H and C are the carries out of bits 3 and 7 of the unsigned addition
of SP's low byte and the offset byte (44_alu16.md R213). -/
def Obligations.SignedOffsetHelper : Prop :=
  ∀ (sp : Word) (e : Byte),
    (spoff sp e).res.toNat = (sp.toNat + (if e.toNat < 0x80 then e.toNat else e.toNat + 0xFF00)) % 65536 ∧
      (spoff sp e).h = (sp ^^^ sext16 e ^^^ (spoff sp e).res).getLsbD 4 ∧
      (spoff sp e).c = (sp ^^^ sext16 e ^^^ (spoff sp e).res).getLsbD 8 ∧
      ((spoff sp e).h = true ↔ sp.toNat % 16 + e.toNat % 16 > 0x0F) ∧
      ((spoff sp e).c = true ↔ sp.toNat % 256 + e.toNat > 0xFF)

/-! Encodings and costs -/

/-- A few words written out from the spec's encodings decode to the instructions they stand for (30_encoding.md R94 to R100;
R106 for 0x3E and 0xCD). -/
def Obligations.WrittenWordsDecode : Prop :=
  decode [0b00_111_110, 0x42] = .ok (.ld_A_n 0x42, []) ∧ decode [0b01_000_001] = .ok (.ld_B_C, []) ∧
    decode [0b11_001_101, 0x50, 0x01] = .ok (.call_nn 0x0150, []) ∧ decode [0b01_110_110] = .ok (.halt, []) ∧
    decode [0b10_011_110] = .ok (.sbc_A_atHL, []) ∧ decode [0b00_101_000, 0xFC] = .ok (.jr_Z_e 0xFC, []) ∧
    decode [0xCB, 0b01_111_100] = .ok (.bit_7_H, []) ∧ decode [0xCB, 0xCB] = .ok (.set_1_E, []) ∧
    decode [0b11_010_011] = .ok (.undefined 0xD3, []) ∧ decode [0b11_110_001] = .ok (.pop_AF, [])

/-- The words of the primary instructions that have a selector, by the selector's number (30_encoding.md R86 to R93, R95
to R98): the opcode map is the spec's decision D2. -/
def Obligations.PrimarySelectorEncodings : Prop :=
  (∀ d r : Sel8, encode (.ld8 d r) = [BitVec.ofNat 8 (0x40 + 8 * selCode d + selCode r)]) ∧
    (∀ (d : Sel8) (n : Byte), encode (.ld8n d n) = [BitVec.ofNat 8 (0x06 + 8 * selCode d), n]) ∧
    (∀ d : Sel8, encode (.inc8 d) = [BitVec.ofNat 8 (0x04 + 8 * selCode d)]) ∧
    (∀ d : Sel8, encode (.dec8 d) = [BitVec.ofNat 8 (0x05 + 8 * selCode d)]) ∧
    (∀ (o : AluOp) (r : Sel8), encode (.alu o r) = [BitVec.ofNat 8 (0x80 + 8 * aluCode o + selCode r)]) ∧
    (∀ (o : AluOp) (n : Byte), encode (.aluN o n) = [BitVec.ofNat 8 (0xC6 + 8 * aluCode o), n]) ∧
    (∀ (p : Pair) (hi lo : Byte),
      encode (.ldPair p (joinBytes hi lo)) = [BitVec.ofNat 8 (0x01 + 16 * pairCode p), lo, hi]) ∧
    (∀ p : Pair, encode (.addHL p) = [BitVec.ofNat 8 (0x09 + 16 * pairCode p)]) ∧
    (∀ p : Pair, encode (.incPair p) = [BitVec.ofNat 8 (0x03 + 16 * pairCode p)]) ∧
    (∀ p : Pair, encode (.decPair p) = [BitVec.ofNat 8 (0x0B + 16 * pairCode p)]) ∧
    (∀ p : StackPair, encode (.push p) = [BitVec.ofNat 8 (0xC5 + 16 * stackPairCode p)]) ∧
    (∀ p : StackPair, encode (.pop p) = [BitVec.ofNat 8 (0xC1 + 16 * stackPairCode p)]) ∧
    (∀ (k : Cond) (e : Byte), encode (.jrIf k e) = [BitVec.ofNat 8 (0x20 + 8 * condCode k), e]) ∧
    (∀ (k : Cond) (hi lo : Byte),
      encode (.jpIf k (joinBytes hi lo)) = [BitVec.ofNat 8 (0xC2 + 8 * condCode k), lo, hi]) ∧
    (∀ (k : Cond) (hi lo : Byte),
      encode (.callIf k (joinBytes hi lo)) = [BitVec.ofNat 8 (0xC4 + 8 * condCode k), lo, hi]) ∧
    (∀ k : Cond, encode (.retIf k) = [BitVec.ofNat 8 (0xC0 + 8 * condCode k)]) ∧
    (∀ n : Fin 8, encode (.rst n) = [BitVec.ofNat 8 (0xC7 + 8 * n.val)])

/-- The words of the extended instructions (30_encoding.md R94, R99): the map is the spec's decisions D1 to D3. -/
def Obligations.ExtendedEncodings : Prop :=
  (∀ (k : RotKind) (r : Sel8), encode (.rotate k r) = [0xCB, BitVec.ofNat 8 (8 * rotCode k + selCode r)]) ∧
    (∀ (b : Fin 8) (r : Sel8), encode (.bit b r) = [0xCB, BitVec.ofNat 8 (0x40 + 8 * b.val + selCode r)]) ∧
    (∀ (b : Fin 8) (r : Sel8), encode (.res b r) = [0xCB, BitVec.ofNat 8 (0x80 + 8 * b.val + selCode r)]) ∧
    (∀ (b : Fin 8) (r : Sel8), encode (.set b r) = [0xCB, BitVec.ofNat 8 (0xC0 + 8 * b.val + selCode r)])

/-- The default cycle costs (70_reset_and_hazards.md R298, R299; assumption 8): one cost per form, the same whatever the
operands are and whether a branch is taken. -/
def Obligations.DefaultCycleCosts : Prop :=
  (∀ d r : Reg8, instrCost (.ld8 (.reg d) (.reg r)) = some 4) ∧
    (∀ (d : Reg8) (n : Byte), instrCost (.ld8n (.reg d) n) = some 8) ∧
    (∀ d : Reg8, instrCost (.ld8 (.reg d) .atHL) = some 8 ∧ instrCost (.ld8 .atHL (.reg d)) = some 8) ∧
    (∀ n : Byte, instrCost (.ld8n .atHL n) = some 12) ∧
    (∀ i ∈ ([.nop, .stop, .halt, .di, .ei, .daa, .cpl, .scf, .ccf, .rlca, .rrca, .rla, .rra, .jp_HL] : List Instr),
      instrCost i = some 4) ∧
    (∀ i ∈ ([.ld_A_atBC, .ld_A_atDE, .ld_atBC_A, .ld_atDE_A, .ld_A_atHLi, .ld_A_atHLd, .ld_atHLi_A, .ld_atHLd_A,
        .ldh_A_atC, .ldh_atC_A, .ld_SP_HL] : List Instr), instrCost i = some 8) ∧
    (∀ n : Byte, ∀ i ∈ ([.ldh_A_atn n, .ldh_atn_A n, .ld_HL_SPe n, .jr_e n] : List Instr), instrCost i = some 12) ∧
    (∀ nn : Word, ∀ i ∈ ([.ld_A_atnn nn, .ld_atnn_A nn, .jp_nn nn] : List Instr), instrCost i = some 16) ∧
    (∀ (p : Pair) (nn : Word), instrCost (.ldPair p nn) = some 12) ∧
    (∀ nn : Word, instrCost (.ld_atnn_SP nn) = some 20 ∧ instrCost (.call_nn nn) = some 24) ∧
    (∀ p : StackPair, instrCost (.push p) = some 16 ∧ instrCost (.pop p) = some 12) ∧
    (∀ (o : AluOp) (r : Reg8) (n : Byte), instrCost (.alu o (.reg r)) = some 4 ∧ instrCost (.alu o .atHL) = some 8 ∧
      instrCost (.aluN o n) = some 8) ∧
    (∀ r : Reg8, instrCost (.inc8 (.reg r)) = some 4 ∧ instrCost (.dec8 (.reg r)) = some 4) ∧
    (instrCost (.inc8 .atHL) = some 12 ∧ instrCost (.dec8 .atHL) = some 12) ∧
    (∀ p : Pair, instrCost (.addHL p) = some 8 ∧ instrCost (.incPair p) = some 8 ∧ instrCost (.decPair p) = some 8) ∧
    (∀ e : Byte, instrCost (.add_SP_e e) = some 16) ∧
    (∀ (k : Cond) (nn : Word) (e : Byte), instrCost (.jpIf k nn) = some 12 ∧ instrCost (.jrIf k e) = some 8 ∧
      instrCost (.callIf k nn) = some 12 ∧ instrCost (.retIf k) = some 8) ∧
    (instrCost .ret = some 16 ∧ instrCost .reti = some 16) ∧ (∀ n : Fin 8, instrCost (.rst n) = some 16) ∧
    (∀ (k : RotKind) (b : Fin 8) (r : Reg8), instrCost (.rotate k (.reg r)) = some 8 ∧
      instrCost (.bit b (.reg r)) = some 8 ∧ instrCost (.res b (.reg r)) = some 8 ∧
      instrCost (.set b (.reg r)) = some 8) ∧
    (∀ (k : RotKind) (b : Fin 8), instrCost (.rotate k .atHL) = some 16 ∧ instrCost (.res b .atHL) = some 16 ∧
      instrCost (.set b .atHL) = some 16 ∧ instrCost (.bit b .atHL) = some 12)

/-! The 8-bit loads -/

/-- LD r,r'; LD r,n; LD r,(HL) complete: the destination register holds the source (memory at the old HL for the (HL) form,
read once) and nothing else changes, no flag and no memory (40_load8.md R120 to R123). -/
def Obligations.LoadsToRegister : Prop :=
  ∀ (s : State) (d : Reg8),
    (∀ r : Reg8, ∃ t, exec (.ld8 (.reg d) (.reg r)) s = .next t ∧ RegWritten s t d (s.reg r)) ∧
      (∀ n : Byte, ∃ t, exec (.ld8n (.reg d) n) s = .next t ∧ RegWritten s t d n) ∧
      ∃ t, exec (.ld8 (.reg d) .atHL) s = .next t ∧ RegWritten s.afterReadAtHL t d (s.byteAt s.hl) ∧ MemoryKept s t

/-- LD (HL),r and LD (HL),n complete: one bus write of the source at HL; no register and no flag changes
(40_load8.md R120, R124, R125). -/
def Obligations.StoresAtHL : Prop :=
  ∀ (s : State) (i : Instr) (v : Byte),
    ((∃ r : Reg8, i = .ld8 .atHL (.reg r) ∧ v = s.reg r) ∨ i = .ld8n .atHL v) →
    ∃ t, exec i s = .next t ∧ t = s.transact [.write s.hl v] ∧
      MemoryAfterWrite s t s.hl v

/-- LD A,(BC); LD A,(DE); LD A,(nn); LDH A,(C); LDH A,(n) complete: A holds the byte at the form's address, read once;
nothing else changes (40_load8.md R126, R127, R130, R132, R134). -/
def Obligations.LoadsOfAFromAddress : Prop :=
  ∀ (s : State) (nn : Word) (n : Byte),
    ∀ x ∈ ([(.ld_A_atBC, s.bc), (.ld_A_atDE, s.de), (.ld_A_atnn nn, nn),
        (.ldh_A_atC, BitVec.ofNat 16 (0xFF00 + s.c.toNat)), (.ldh_A_atn n, BitVec.ofNat 16 (0xFF00 + n.toNat))] :
        List (Instr × Word)),
      ∃ t, exec x.1 s = .next t ∧ t = { s.transact [.read x.2 (s.byteAt x.2)] with a := s.byteAt x.2 } ∧
        MemoryKept s t

/-- LD (BC),A; LD (DE),A; LD (nn),A; LDH (C),A; LDH (n),A complete: one bus write of A at the form's address; no register
and no flag changes (40_load8.md R128, R129, R131, R133, R135). -/
def Obligations.StoresOfAToAddress : Prop :=
  ∀ (s : State) (nn : Word) (n : Byte),
    ∀ x ∈ ([(.ld_atBC_A, s.bc), (.ld_atDE_A, s.de), (.ld_atnn_A nn, nn),
        (.ldh_atC_A, BitVec.ofNat 16 (0xFF00 + s.c.toNat)), (.ldh_atn_A n, BitVec.ofNat 16 (0xFF00 + n.toNat))] :
        List (Instr × Word)),
      ∃ t, exec x.1 s = .next t ∧ t = s.transact [.write x.2 s.a] ∧
        MemoryAfterWrite s t x.2 s.a

/-- LD A,(HL+) and LD A,(HL-) complete: A holds the byte at HL, and HL moves by one, wrapping; LD (HL+),A and LD (HL-),A
complete: A is written at the old HL, and HL moves by one; nothing else changes (40_load8.md R136 to R139). -/
def Obligations.SteppingLoadsAndStores : Prop :=
  ∀ s : State,
    (∀ x ∈ ([(.ld_A_atHLi, 1), (.ld_A_atHLd, 65535)] : List (Instr × Nat)),
      ∃ t, exec x.1 s = .next t ∧ t.hl.toNat = (s.hl.toNat + x.2) % 65536 ∧
        t = { s.transact [.read s.hl (s.byteAt s.hl)] with a := s.byteAt s.hl, h := t.h, l := t.l } ∧
        MemoryKept s t) ∧
      ∀ x ∈ ([(.ld_atHLi_A, 1), (.ld_atHLd_A, 65535)] : List (Instr × Nat)),
        ∃ t, exec x.1 s = .next t ∧ t.hl.toNat = (s.hl.toNat + x.2) % 65536 ∧
          t = { s.transact [.write s.hl s.a] with h := t.h, l := t.l } ∧
          MemoryAfterWrite s t s.hl s.a

/-! The 16-bit loads and the stack -/

/-- LD rr,nn and LD SP,HL complete: the pair holds the value and nothing else changes (41_load16_stack.md R140, R142). -/
def Obligations.LoadsOfPairs : Prop :=
  ∀ s : State,
    (∀ (p : Pair) (nn : Word), ∃ t, exec (.ldPair p nn) s = .next t ∧ PairWritten s t p nn) ∧
      exec .ld_SP_HL s = .next { s with sp := s.hl }

/-- LD (nn),SP completes: the low byte of SP is written at nn, then the high byte at nn + 1, wrapping; SP and everything
else stay (41_load16_stack.md R141; the order of the two writes is the spec's decision D13). -/
def Obligations.StoreOfSP : Prop :=
  ∀ (s : State) (nn : Word) (hi lo : Byte), s.sp.toNat = hi.toNat * 256 + lo.toNat →
    ∃ t, exec (.ld_atnn_SP nn) s = .next t ∧
      t = s.transact [.write nn lo, .write (nn + 1) hi] ∧
      MemoryAfterWrites s t nn lo (nn + 1) hi

/-- LD HL,SP+e and ADD SP,e complete: HL, or SP, holds SP plus the signed offset; Z and N are 0, H and C are the carries
out of bits 3 and 7 of the low bytes' addition; nothing else changes (41_load16_stack.md R143; 44_alu16.md R214). -/
def Obligations.SignedOffsetFromSP : Prop :=
  ∀ (s : State) (e : Byte),
    (∃ t, exec (.ld_HL_SPe e) s = .next t ∧
      t.hl.toNat = (s.sp.toNat + (if e.toNat < 0x80 then e.toNat else e.toNat + 0xFF00)) % 65536 ∧
      t.FlagsAre false false (decide (s.sp.toNat % 16 + e.toNat % 16 > 0x0F))
        (decide (s.sp.toNat % 256 + e.toNat > 0xFF)) ∧
      t = { s with h := t.h, l := t.l, f := t.f }) ∧
    ∃ t, exec (.add_SP_e e) s = .next t ∧
      t.sp.toNat = (s.sp.toNat + (if e.toNat < 0x80 then e.toNat else e.toNat + 0xFF00)) % 65536 ∧
      t.FlagsAre false false (decide (s.sp.toNat % 16 + e.toNat % 16 > 0x0F))
        (decide (s.sp.toNat % 256 + e.toNat > 0xFF)) ∧
      t = { s with sp := t.sp, f := t.f }

/-- PUSH rr completes: the pair's high byte is written at SP-1, then its low byte at SP-2, and SP falls by 2; no other
register, no flag and no other byte changes (41_load16_stack.md R144). -/
def Obligations.PushStoresPair : Prop :=
  ∀ (s : State) (p : StackPair) (hi lo : Byte), (s.stackPair p).toNat = hi.toNat * 256 + lo.toNat →
    ∃ t, exec (.push p) s = .next t ∧
      t = { s.transact [.write (s.sp - 1) hi, .write (s.sp - 2) lo] with sp := s.sp - 2 } ∧
      MemoryAfterWrites s t (s.sp - 1) hi (s.sp - 2) lo

/-- POP BC, DE, HL and AF complete: the low register takes the byte at SP, the high register the byte at SP+1, read after it;
SP rises by 2; POP AF takes the four flags from bits 7 to 4 and forces the low nibble of F to 0; nothing else changes
(41_load16_stack.md R145, R146). -/
def Obligations.PopLoadsPair : Prop :=
  ∀ (s : State) (lo hi : Byte), lo = s.byteAt s.sp → hi = (s.readAt s.sp).byteAt (s.sp + 1) →
    ∀ u : State, u = { s.transact [.read s.sp lo, .read (s.sp + 1) hi] with sp := s.sp + 2 } →
      MemoryKept s u ∧
      exec (.pop .BC) s = .next { u with b := hi, c := lo } ∧
      exec (.pop .DE) s = .next { u with d := hi, e := lo } ∧
      exec (.pop .HL) s = .next { u with h := hi, l := lo } ∧
      ∃ t, exec (.pop .AF) s = .next t ∧ t = { u with a := hi, f := t.f } ∧
        t.FlagsAre (lo.getLsbD 7) (lo.getLsbD 6) (lo.getLsbD 5) (lo.getLsbD 4)

/-- The round-trip law: PUSH of one pair then POP into another moves the value and restores SP, on a bus that answers the two
bytes as they were written; the reference bus does, where it keeps writes. POP AF clears the low nibble of what it restores;
PUSH AF then POP AF keeps the value, F's low nibble being 0 already (41_load16_stack.md R147). -/
def Obligations.PushPopRoundTrip : Prop :=
  ∀ (s : State) (p q : StackPair) (hi lo : Byte) (pushed : Bus),
    (s.stackPair p).toNat = hi.toNat * 256 + lo.toNat →
    pushed = s.bus.after [.write (s.sp - 1) hi, .write (s.sp - 2) lo] →
    (∀ (policy : RomWrite) (m : Memory), s.bus = .flat policy m → keepsWrite policy (s.sp - 1) = true →
      keepsWrite policy (s.sp - 2) = true →
      pushed.answer (s.sp - 2) = lo ∧ (pushed.after [.read (s.sp - 2) lo]).answer (s.sp - 1) = hi) ∧
    (pushed.answer (s.sp - 2) = lo → (pushed.after [.read (s.sp - 2) lo]).answer (s.sp - 1) = hi →
      ∃ t u, exec (.push p) s = .next t ∧ exec (.pop q) t = .next u ∧ u.sp = s.sp ∧
        (u.stackPair q = if q = .AF then s.stackPair p &&& 0xFFF0 else s.stackPair p) ∧
        (p = .AF → s.f &&& 0x0F = 0 → u.stackPair q = s.stackPair p))

/-! The system instructions -/

/-- NOP and STOP do nothing; HALT sets `halted`; DI and EI write IME in their own step; UNDEFINED takes the decode fault, the
latch is set and the outcome names the byte and the address before PC, where it was fetched from; nothing else changes
(42_dispatch_system.md R153 to R157, R159). That STOP is one byte is the spec's decision D7, that EI has no delay D16. -/
def Obligations.SystemInstructions : Prop :=
  ∀ s : State, exec .nop s = .next s ∧ exec .stop s = .next s ∧ exec .halt s = .next { s with halted := true } ∧
    exec .di s = .next { s with ime := false } ∧ exec .ei s = .next { s with ime := true } ∧
    ∀ op : Byte,
      exec (.undefined op) s = .next { s with faulted := true, result := .decodeFault op (s.pc - 1) }

/-- PREFIX_CB completes and runs the extended instruction its second byte names: the instruction the decoder reads from the
two bytes (42_dispatch_system.md R158; 30_encoding.md R99; assumption 10). -/
def Obligations.EscapeRunsExtendedEntry : Prop :=
  ∀ (s : State) (op2 : Byte), ∃ (i : Instr) (t : State),
    decode [0xCB, op2] = .ok (i, []) ∧ exec i s = .next t ∧ exec (.prefixCb op2) s = .next t

/-! The 8-bit ALU -/

/-- ADD A,s and ADC A,s, each with a register, (HL) and an immediate, complete: A holds the sum, Z, H and C are as the sums
of the whole bytes and of the low nibbles say, N is 0; nothing else changes (43_alu8.md R172 to R178). -/
def Obligations.AddAndAdc : Prop :=
  ∀ (s s1 : State) (i : Instr) (v : Byte) (o : AluOp) (cin : Nat), AluSource o i s v s1 →
    (o = .add ∧ cin = 0 ∨ o = .adc ∧ cin = s.flagC.toNat) →
    ∃ t, exec i s = .next t ∧ t.a.toNat = (s.a.toNat + v.toNat + cin) % 256 ∧
      t.FlagsAre (decide (t.a = 0)) false (decide ((s.a &&& 0x0F).toNat + (v &&& 0x0F).toNat + cin > 0x0F))
        (decide (s.a.toNat + v.toNat + cin > 0xFF)) ∧
      t = { s1 with a := t.a, f := t.f } ∧ MemoryKept s t

/-- SUB s and SBC A,s, each with a register, (HL) and an immediate, complete: A holds the difference, Z as the result, N is
1, H and C are set when the borrow occurs; nothing else changes (43_alu8.md R172, R179 to R184). -/
def Obligations.SubAndSbc : Prop :=
  ∀ (s s1 : State) (i : Instr) (v : Byte) (o : AluOp) (bin : Nat), AluSource o i s v s1 →
    (o = .sub ∧ bin = 0 ∨ o = .sbc ∧ bin = s.flagC.toNat) →
    ∃ t, exec i s = .next t ∧ t.a.toNat = (s.a.toNat + 512 - v.toNat - bin) % 256 ∧
      t.FlagsAre (decide (t.a = 0)) true (decide ((s.a &&& 0x0F).toNat < (v &&& 0x0F).toNat + bin))
        (decide (s.a.toNat < v.toNat + bin)) ∧
      t = { s1 with a := t.a, f := t.f } ∧ MemoryKept s t

/-- CP s, with a register, (HL) and an immediate, completes: the flags are SUB's, Z exactly when A equals the source and C
exactly when A is below it; A is not written (43_alu8.md R172, R194 to R196). -/
def Obligations.CompareKeepsA : Prop :=
  ∀ (s s1 : State) (i : Instr) (v : Byte), AluSource .cp i s v s1 →
    ∃ t, exec i s = .next t ∧
      t.FlagsAre (decide (s.a = v)) true (decide ((s.a &&& 0x0F).toNat < (v &&& 0x0F).toNat))
        (decide (s.a.toNat < v.toNat)) ∧
      t = { s1 with f := t.f } ∧ MemoryKept s t

/-- AND, XOR, OR with a register, (HL) and an immediate complete: bit by bit, Z from the result, N = 0, C = 0, H = 1 for AND
and 0 for XOR and OR; nothing else changes (43_alu8.md R172, R185 to R193; N, H, C are the spec's decision D11). -/
def Obligations.LogicOperations : Prop :=
  ∀ (s s1 : State) (i : Instr) (v : Byte) (o : AluOp) (g : Bool → Bool → Bool) (hf : Bool), AluSource o i s v s1 →
    (o = .and ∧ g = and ∧ hf = true ∨ o = .xor ∧ g = xor ∧ hf = false ∨ o = .or ∧ g = or ∧ hf = false) →
    ∃ t, exec i s = .next t ∧ (∀ j : Nat, t.a.getLsbD j = g (s.a.getLsbD j) (v.getLsbD j)) ∧
      t.FlagsAre (decide (t.a = 0)) false hf false ∧ t = { s1 with a := t.a, f := t.f } ∧ MemoryKept s t

/-- INC r and DEC r complete: the register moves by one, wrapping; Z from the result, N = 0 or 1, H by the low nibble, C
unchanged; nothing else changes (43_alu8.md R197, R199). -/
def Obligations.IncDecRegister : Prop :=
  ∀ (s : State) (r : Reg8),
    (∃ t w, exec (.inc8 (.reg r)) s = .next t ∧ w.toNat = ((s.reg r).toNat + 1) % 256 ∧
      RegWritten { s with f := t.f } t r w ∧
      t.FlagsAre (decide (w = 0)) false (decide ((s.reg r &&& 0x0F).toNat = 0x0F)) s.flagC) ∧
    ∃ t w, exec (.dec8 (.reg r)) s = .next t ∧ w.toNat = ((s.reg r).toNat + 255) % 256 ∧
      RegWritten { s with f := t.f } t r w ∧
      t.FlagsAre (decide (w = 0)) true (decide ((s.reg r &&& 0x0F).toNat = 0)) s.flagC

/-- INC (HL) and DEC (HL) complete: one read then one write at HL, the byte moves by one, flags as for a register; nothing
else changes (43_alu8.md R198, R200). -/
def Obligations.IncDecAtHL : Prop :=
  ∀ (s : State) (v : Byte), v = s.byteAt s.hl →
    (∃ t w, exec (.inc8 .atHL) s = .next t ∧ w.toNat = (v.toNat + 1) % 256 ∧
      t = { s.transact [.read s.hl v, .write s.hl w] with f := t.f } ∧
      MemoryAfterWrite s t s.hl w ∧
      t.FlagsAre (decide (w = 0)) false (decide ((v &&& 0x0F).toNat = 0x0F)) s.flagC) ∧
    ∃ t w, exec (.dec8 .atHL) s = .next t ∧ w.toNat = (v.toNat + 255) % 256 ∧
      t = { s.transact [.read s.hl v, .write s.hl w] with f := t.f } ∧
      MemoryAfterWrite s t s.hl w ∧
      t.FlagsAre (decide (w = 0)) true (decide ((v &&& 0x0F).toNat = 0)) s.flagC

/-- DAA completes: A is corrected by 0x06, 0x60, both or neither, added or, with N set, subtracted; Z from the result, N
unchanged, H = 0, C exactly when 0x60 was applied; nothing else changes (43_alu8.md R201; C is the spec's decision D10). -/
def Obligations.DecimalAdjust : Prop :=
  ∀ (s : State) (corr : Nat), corr = correctionValue s.a.toNat s.flagN s.flagH s.flagC →
    ∃ t, exec .daa s = .next t ∧
      t.a.toNat = (if s.flagN = true then s.a.toNat + 256 - corr else s.a.toNat + corr) % 256 ∧
      t.FlagsAre (decide (t.a = 0)) s.flagN false (decide (corr ≥ 0x60)) ∧ t = { s with a := t.a, f := t.f }

/-- The decimal property of DAA: for packed-decimal operands, ADC (SBC) then DAA gives the packed-decimal sum
(difference), with C the decimal carry (borrow); with carry-in 0 these are ADD and SUB (43_alu8.md R201; 90_conflicts.md
C10; 95_test_vectors.md S7). -/
def Obligations.DecimalAdjustAddsDecimals : Prop :=
  ∀ (s : State) (n : Byte), IsBcd s.a → IsBcd n →
    (∃ t u, exec (.aluN .adc n) s = .next t ∧ exec .daa t = .next u ∧ IsBcd u.a ∧
      bcdValue u.a + 100 * u.flagC.toNat = bcdValue s.a + bcdValue n + s.flagC.toNat) ∧
    ∃ t u, exec (.aluN .sbc n) s = .next t ∧ exec .daa t = .next u ∧ IsBcd u.a ∧
      bcdValue u.a + bcdValue n + s.flagC.toNat = bcdValue s.a + 100 * u.flagC.toNat

/-- CPL complements every bit of A and sets N and H; SCF sets C, CCF inverts it, both clear N and H; Z stays in all three,
C in CPL; nothing else changes (43_alu8.md R202 to R204, general knowledge of the spec, G6). -/
def Obligations.ComplementAndCarryFlags : Prop :=
  ∀ s : State,
    (∃ t, exec .cpl s = .next t ∧ t.a.toNat = 255 - s.a.toNat ∧ t.FlagsAre s.flagZ true true s.flagC ∧
      t = { s with a := t.a, f := t.f }) ∧
    (∃ t, exec .scf s = .next t ∧ t.FlagsAre s.flagZ false false true ∧ t = { s with f := t.f }) ∧
    ∃ t, exec .ccf s = .next t ∧ t.FlagsAre s.flagZ false false (!s.flagC) ∧ t = { s with f := t.f }

/-! 16-bit arithmetic -/

/-- ADD HL,rr completes: HL holds the sum modulo 65536; Z unchanged, N = 0, H the carry out of bit 11, C out of bit 15;
nothing else changes (44_alu16.md R210; Z and N are the spec's decision D11). -/
def Obligations.AddPairToHL : Prop :=
  ∀ (s : State) (p : Pair),
    ∃ t, exec (.addHL p) s = .next t ∧ t.hl.toNat = (s.hl.toNat + (s.pair p).toNat) % 65536 ∧
      t.FlagsAre s.flagZ false (decide ((s.hl &&& 0x0FFF).toNat + (s.pair p &&& 0x0FFF).toNat > 0x0FFF))
        (decide (s.hl.toNat + (s.pair p).toNat > 0xFFFF)) ∧
      t = { s with h := t.h, l := t.l, f := t.f }

/-- INC rr and DEC rr complete: the pair moves by one, wrapping; no flag, no memory and no other pair changes
(44_alu16.md R211, R212). -/
def Obligations.IncDecPair : Prop :=
  ∀ (s : State) (p : Pair),
    (∃ t w, exec (.incPair p) s = .next t ∧ w.toNat = ((s.pair p).toNat + 1) % 65536 ∧ PairWritten s t p w) ∧
    ∃ t w, exec (.decPair p) s = .next t ∧ w.toNat = ((s.pair p).toNat + 65535) % 65536 ∧ PairWritten s t p w

/-! Rotates, shifts and bits -/

/-- RLCA, RRCA, RLA, RRA complete: A is rotated, C is the bit shifted out, Z, N, H are 0 whatever the result; nothing else
changes (45_rotate_shift_bit.md R220 to R224, general knowledge of the spec, G8). -/
def Obligations.AccumulatorRotates : Prop :=
  ∀ s : State,
    ∀ x ∈ ([(.rlca, .rlc), (.rrca, .rrc), (.rla, .rl), (.rra, .rr)] : List (Instr × RotKind)),
      ∃ t, exec x.1 s = .next t ∧ t.a.toNat = rotatedValue x.2 s.a.toNat s.flagC.toNat ∧
        t.FlagsAre false false false (shiftedOut x.2 s.a.toNat) ∧ t = { s with a := t.a, f := t.f }

/-- The eight rotates and shifts, on each register and on (HL), complete: the operand takes the shifted byte, Z from it, N
and H 0, C the bit shifted out and 0 for SWAP; the (HL) form reads then writes once; nothing else changes
(45_rotate_shift_bit.md R220, R225 to R240). -/
def Obligations.RotatesAndShifts : Prop :=
  ∀ (s : State) (k : RotKind),
    (∀ r : Reg8, ∃ t w, exec (.rotate k (.reg r)) s = .next t ∧
      w.toNat = rotatedValue k (s.reg r).toNat s.flagC.toNat ∧ RegWritten { s with f := t.f } t r w ∧
      t.FlagsAre (decide (w = 0)) false false (shiftedOut k (s.reg r).toNat)) ∧
    ∃ t w, exec (.rotate k .atHL) s = .next t ∧
      w.toNat = rotatedValue k (s.byteAt s.hl).toNat s.flagC.toNat ∧
      t = { s.transact [.read s.hl (s.byteAt s.hl), .write s.hl w] with f := t.f } ∧
      MemoryAfterWrite s t s.hl w ∧
      t.FlagsAre (decide (w = 0)) false false (shiftedOut k (s.byteAt s.hl).toNat)

/-- BIT b,r and BIT b,(HL) complete: Z is the inverted bit, N = 0, H = 1, C unchanged; nothing is written, and (HL) is read
once (45_rotate_shift_bit.md R241, R242). -/
def Obligations.BitTests : Prop :=
  ∀ (s : State) (b : Fin 8),
    (∀ r : Reg8, ∃ t, exec (.bit b (.reg r)) s = .next t ∧
      t.FlagsAre (decide ((s.reg r).toNat / 2 ^ b.val % 2 = 0)) false true s.flagC ∧ t = { s with f := t.f }) ∧
    ∃ t, exec (.bit b .atHL) s = .next t ∧
      t.FlagsAre (decide ((s.byteAt s.hl).toNat / 2 ^ b.val % 2 = 0)) false true s.flagC ∧
      t = { s.afterReadAtHL with f := t.f } ∧ MemoryKept s t

/-- RES b and SET b, on each register and on (HL), complete: the selected bit is forced to 0 or 1, the other bits stay; no
flag changes; (HL) is read then written once, even when the value does not change (45_rotate_shift_bit.md R243 to R246). -/
def Obligations.BitResetsAndSets : Prop :=
  ∀ (s : State) (b : Fin 8) (build : Fin 8 → Sel8 → Instr) (q : Bool),
    (build = Instr.res ∧ q = false ∨ build = Instr.set ∧ q = true) →
    (∀ r : Reg8, ∃ t w, exec (build b (.reg r)) s = .next t ∧ RegWritten s t r w ∧
      ∀ j : Nat, w.getLsbD j = if j = b.val then q else (s.reg r).getLsbD j) ∧
    ∃ t w, exec (build b .atHL) s = .next t ∧
      t = s.transact [.read s.hl (s.byteAt s.hl), .write s.hl w] ∧
      MemoryAfterWrite s t s.hl w ∧
      ∀ j : Nat, w.getLsbD j = if j = b.val then q else (s.byteAt s.hl).getLsbD j

/-! Control transfer -/

/-- JP nn, JP HL and JP cc,nn complete: PC takes the target, or, when the condition is false, nothing changes
(46_control_transfer.md R250 to R253). -/
def Obligations.AbsoluteJumps : Prop :=
  ∀ (s : State) (nn : Word),
    exec (.jp_nn nn) s = .next { s with pc := nn } ∧ exec .jp_HL s = .next { s with pc := s.hl } ∧
      ∀ k : Cond, (s.CondTrue k → exec (.jpIf k nn) s = .next { s with pc := nn }) ∧
        (¬ s.CondTrue k → exec (.jpIf k nn) s = .next s)

/-- JR e and JR cc,e complete: PC, which is the address of the instruction following JR, moves by the signed offset modulo
65536, or, when the condition is false, nothing changes (46_control_transfer.md R250, R254, R255). -/
def Obligations.RelativeJumps : Prop :=
  ∀ (s : State) (e : Byte) (target : Word),
    target.toNat = (s.pc.toNat + (if e.toNat < 0x80 then e.toNat else e.toNat + 0xFF00)) % 65536 →
    exec (.jr_e e) s = .next { s with pc := target } ∧
      ∀ k : Cond, (s.CondTrue k → exec (.jrIf k e) s = .next { s with pc := target }) ∧
        (¬ s.CondTrue k → exec (.jrIf k e) s = .next s)

/-- CALL nn, CALL cc,nn and RST n complete: PC, the address of the next instruction, is pushed high byte first, and PC takes
the target, 8 * n for RST; when the condition is false nothing changes; no flag and no other register changes
(46_control_transfer.md R250, R256, R257, R261). -/
def Obligations.CallsAndRestarts : Prop :=
  ∀ (s : State) (nn : Word) (hi lo : Byte), s.pc.toNat = hi.toNat * 256 + lo.toNat →
    (∀ x : Instr × Word,
      (x = (.call_nn nn, nn) ∨ (∃ k : Cond, s.CondTrue k ∧ x = (.callIf k nn, nn)) ∨
        ∃ n : Fin 8, x = (.rst n, BitVec.ofNat 16 (8 * n.val))) →
      ∃ t, exec x.1 s = .next t ∧
        t = { s.transact [.write (s.sp - 1) hi, .write (s.sp - 2) lo] with pc := x.2, sp := s.sp - 2 } ∧
        MemoryAfterWrites s t (s.sp - 1) hi (s.sp - 2) lo) ∧
    ∀ k : Cond, ¬ s.CondTrue k → exec (.callIf k nn) s = .next s

/-- RET, RET cc and RETI complete: PC is popped, low byte at SP and then high byte at SP+1, SP rises by 2, and RETI alone sets
IME; F is not restored; when the condition is false nothing changes, the stack is not read (46_control_transfer.md R250,
R258 to R260; 60_exceptions.md R276). -/
def Obligations.Returns : Prop :=
  ∀ (s : State) (lo hi : Byte) (target : Word), lo = s.byteAt s.sp → hi = (s.readAt s.sp).byteAt (s.sp + 1) →
    target.toNat = hi.toNat * 256 + lo.toNat →
    ∀ u : State, u = { s.transact [.read s.sp lo, .read (s.sp + 1) hi] with pc := target, sp := s.sp + 2 } →
      MemoryKept s u ∧ exec .ret s = .next u ∧ exec .reti s = .next { u with ime := true } ∧
        ∀ k : Cond, (s.CondTrue k → exec (.retIf k) s = .next u) ∧ (¬ s.CondTrue k → exec (.retIf k) s = .next s)
end

