-- ==== Sys2Proof/Laws/State.lean ====
section
/-! SUPPORT. The small lemmas of the state: for each update function, one lemma per field, so that no later proof unfolds a
record update. -/

namespace Sys2Proof.Machine

@[simp] theorem transact_a (s : State) (log : List BusEvent) : (s.transact log).a = s.a := rfl
@[simp] theorem transact_f (s : State) (log : List BusEvent) : (s.transact log).f = s.f := rfl
@[simp] theorem transact_b (s : State) (log : List BusEvent) : (s.transact log).b = s.b := rfl
@[simp] theorem transact_c (s : State) (log : List BusEvent) : (s.transact log).c = s.c := rfl
@[simp] theorem transact_d (s : State) (log : List BusEvent) : (s.transact log).d = s.d := rfl
@[simp] theorem transact_e (s : State) (log : List BusEvent) : (s.transact log).e = s.e := rfl
@[simp] theorem transact_h (s : State) (log : List BusEvent) : (s.transact log).h = s.h := rfl
@[simp] theorem transact_l (s : State) (log : List BusEvent) : (s.transact log).l = s.l := rfl
@[simp] theorem transact_sp (s : State) (log : List BusEvent) : (s.transact log).sp = s.sp := rfl
@[simp] theorem transact_pc (s : State) (log : List BusEvent) : (s.transact log).pc = s.pc := rfl
@[simp] theorem transact_halted (s : State) (log : List BusEvent) : (s.transact log).halted = s.halted := rfl
@[simp] theorem transact_ime (s : State) (log : List BusEvent) : (s.transact log).ime = s.ime := rfl
@[simp] theorem transact_faulted (s : State) (log : List BusEvent) : (s.transact log).faulted = s.faulted := rfl
@[simp] theorem transact_bus (s : State) (log : List BusEvent) : (s.transact log).bus = s.bus.after log := rfl
@[simp] theorem transact_cycles (s : State) (log : List BusEvent) : (s.transact log).cycles = s.cycles := rfl
@[simp] theorem transact_hostWrites (s : State) (log : List BusEvent) : (s.transact log).hostWrites = s.hostWrites := rfl
@[simp] theorem transact_result (s : State) (log : List BusEvent) : (s.transact log).result = s.result := rfl
@[simp] theorem transact_busLog (s : State) (log : List BusEvent) : (s.transact log).busLog = s.busLog ++ log := rfl

@[simp] theorem readAt_a (s : State) (addr : Word) : (s.readAt addr).a = s.a := rfl
@[simp] theorem readAt_f (s : State) (addr : Word) : (s.readAt addr).f = s.f := rfl
@[simp] theorem readAt_b (s : State) (addr : Word) : (s.readAt addr).b = s.b := rfl
@[simp] theorem readAt_c (s : State) (addr : Word) : (s.readAt addr).c = s.c := rfl
@[simp] theorem readAt_d (s : State) (addr : Word) : (s.readAt addr).d = s.d := rfl
@[simp] theorem readAt_e (s : State) (addr : Word) : (s.readAt addr).e = s.e := rfl
@[simp] theorem readAt_h (s : State) (addr : Word) : (s.readAt addr).h = s.h := rfl
@[simp] theorem readAt_l (s : State) (addr : Word) : (s.readAt addr).l = s.l := rfl
@[simp] theorem readAt_sp (s : State) (addr : Word) : (s.readAt addr).sp = s.sp := rfl
@[simp] theorem readAt_pc (s : State) (addr : Word) : (s.readAt addr).pc = s.pc := rfl
@[simp] theorem readAt_halted (s : State) (addr : Word) : (s.readAt addr).halted = s.halted := rfl
@[simp] theorem readAt_ime (s : State) (addr : Word) : (s.readAt addr).ime = s.ime := rfl
@[simp] theorem readAt_faulted (s : State) (addr : Word) : (s.readAt addr).faulted = s.faulted := rfl
@[simp] theorem readAt_bus (s : State) (addr : Word) : (s.readAt addr).bus = s.bus.after [.read addr (s.byteAt addr)] := rfl
@[simp] theorem readAt_cycles (s : State) (addr : Word) : (s.readAt addr).cycles = s.cycles := rfl
@[simp] theorem readAt_hostWrites (s : State) (addr : Word) : (s.readAt addr).hostWrites = s.hostWrites := rfl
@[simp] theorem readAt_result (s : State) (addr : Word) : (s.readAt addr).result = s.result := rfl
@[simp] theorem readAt_busLog (s : State) (addr : Word) : (s.readAt addr).busLog = s.busLog ++ [.read addr (s.byteAt addr)] := rfl

@[simp] theorem setF_a (s : State) (v : Byte) : (s.setF v).a = s.a := rfl
@[simp] theorem setF_f (s : State) (v : Byte) : (s.setF v).f = v &&& 0xF0 := rfl
@[simp] theorem setF_b (s : State) (v : Byte) : (s.setF v).b = s.b := rfl
@[simp] theorem setF_c (s : State) (v : Byte) : (s.setF v).c = s.c := rfl
@[simp] theorem setF_d (s : State) (v : Byte) : (s.setF v).d = s.d := rfl
@[simp] theorem setF_e (s : State) (v : Byte) : (s.setF v).e = s.e := rfl
@[simp] theorem setF_h (s : State) (v : Byte) : (s.setF v).h = s.h := rfl
@[simp] theorem setF_l (s : State) (v : Byte) : (s.setF v).l = s.l := rfl
@[simp] theorem setF_sp (s : State) (v : Byte) : (s.setF v).sp = s.sp := rfl
@[simp] theorem setF_pc (s : State) (v : Byte) : (s.setF v).pc = s.pc := rfl
@[simp] theorem setF_halted (s : State) (v : Byte) : (s.setF v).halted = s.halted := rfl
@[simp] theorem setF_ime (s : State) (v : Byte) : (s.setF v).ime = s.ime := rfl
@[simp] theorem setF_faulted (s : State) (v : Byte) : (s.setF v).faulted = s.faulted := rfl
@[simp] theorem setF_bus (s : State) (v : Byte) : (s.setF v).bus = s.bus := rfl
@[simp] theorem setF_cycles (s : State) (v : Byte) : (s.setF v).cycles = s.cycles := rfl
@[simp] theorem setF_hostWrites (s : State) (v : Byte) : (s.setF v).hostWrites = s.hostWrites := rfl
@[simp] theorem setF_result (s : State) (v : Byte) : (s.setF v).result = s.result := rfl
@[simp] theorem setF_busLog (s : State) (v : Byte) : (s.setF v).busLog = s.busLog := rfl

@[simp] theorem setFlags_a (s : State) (z n h c : Bool) : (s.setFlags z n h c).a = s.a := rfl
@[simp] theorem setFlags_f (s : State) (z n h c : Bool) : (s.setFlags z n h c).f = packFlags z n h c &&& 0xF0 := rfl
@[simp] theorem setFlags_b (s : State) (z n h c : Bool) : (s.setFlags z n h c).b = s.b := rfl
@[simp] theorem setFlags_c (s : State) (z n h c : Bool) : (s.setFlags z n h c).c = s.c := rfl
@[simp] theorem setFlags_d (s : State) (z n h c : Bool) : (s.setFlags z n h c).d = s.d := rfl
@[simp] theorem setFlags_e (s : State) (z n h c : Bool) : (s.setFlags z n h c).e = s.e := rfl
@[simp] theorem setFlags_h (s : State) (z n h c : Bool) : (s.setFlags z n h c).h = s.h := rfl
@[simp] theorem setFlags_l (s : State) (z n h c : Bool) : (s.setFlags z n h c).l = s.l := rfl
@[simp] theorem setFlags_sp (s : State) (z n h c : Bool) : (s.setFlags z n h c).sp = s.sp := rfl
@[simp] theorem setFlags_pc (s : State) (z n h c : Bool) : (s.setFlags z n h c).pc = s.pc := rfl
@[simp] theorem setFlags_halted (s : State) (z n h c : Bool) : (s.setFlags z n h c).halted = s.halted := rfl
@[simp] theorem setFlags_ime (s : State) (z n h c : Bool) : (s.setFlags z n h c).ime = s.ime := rfl
@[simp] theorem setFlags_faulted (s : State) (z n h c : Bool) : (s.setFlags z n h c).faulted = s.faulted := rfl
@[simp] theorem setFlags_bus (s : State) (z n h c : Bool) : (s.setFlags z n h c).bus = s.bus := rfl
@[simp] theorem setFlags_cycles (s : State) (z n h c : Bool) : (s.setFlags z n h c).cycles = s.cycles := rfl
@[simp] theorem setFlags_hostWrites (s : State) (z n h c : Bool) : (s.setFlags z n h c).hostWrites = s.hostWrites := rfl
@[simp] theorem setFlags_result (s : State) (z n h c : Bool) : (s.setFlags z n h c).result = s.result := rfl
@[simp] theorem setFlags_busLog (s : State) (z n h c : Bool) : (s.setFlags z n h c).busLog = s.busLog := rfl

@[simp] theorem setBC_a (s : State) (w : Word) : (s.setBC w).a = s.a := rfl
@[simp] theorem setBC_f (s : State) (w : Word) : (s.setBC w).f = s.f := rfl
@[simp] theorem setBC_b (s : State) (w : Word) : (s.setBC w).b = hiByte w := rfl
@[simp] theorem setBC_c (s : State) (w : Word) : (s.setBC w).c = loByte w := rfl
@[simp] theorem setBC_d (s : State) (w : Word) : (s.setBC w).d = s.d := rfl
@[simp] theorem setBC_e (s : State) (w : Word) : (s.setBC w).e = s.e := rfl
@[simp] theorem setBC_h (s : State) (w : Word) : (s.setBC w).h = s.h := rfl
@[simp] theorem setBC_l (s : State) (w : Word) : (s.setBC w).l = s.l := rfl
@[simp] theorem setBC_sp (s : State) (w : Word) : (s.setBC w).sp = s.sp := rfl
@[simp] theorem setBC_pc (s : State) (w : Word) : (s.setBC w).pc = s.pc := rfl
@[simp] theorem setBC_halted (s : State) (w : Word) : (s.setBC w).halted = s.halted := rfl
@[simp] theorem setBC_ime (s : State) (w : Word) : (s.setBC w).ime = s.ime := rfl
@[simp] theorem setBC_faulted (s : State) (w : Word) : (s.setBC w).faulted = s.faulted := rfl
@[simp] theorem setBC_bus (s : State) (w : Word) : (s.setBC w).bus = s.bus := rfl
@[simp] theorem setBC_cycles (s : State) (w : Word) : (s.setBC w).cycles = s.cycles := rfl
@[simp] theorem setBC_hostWrites (s : State) (w : Word) : (s.setBC w).hostWrites = s.hostWrites := rfl
@[simp] theorem setBC_result (s : State) (w : Word) : (s.setBC w).result = s.result := rfl
@[simp] theorem setBC_busLog (s : State) (w : Word) : (s.setBC w).busLog = s.busLog := rfl

@[simp] theorem setDE_a (s : State) (w : Word) : (s.setDE w).a = s.a := rfl
@[simp] theorem setDE_f (s : State) (w : Word) : (s.setDE w).f = s.f := rfl
@[simp] theorem setDE_b (s : State) (w : Word) : (s.setDE w).b = s.b := rfl
@[simp] theorem setDE_c (s : State) (w : Word) : (s.setDE w).c = s.c := rfl
@[simp] theorem setDE_d (s : State) (w : Word) : (s.setDE w).d = hiByte w := rfl
@[simp] theorem setDE_e (s : State) (w : Word) : (s.setDE w).e = loByte w := rfl
@[simp] theorem setDE_h (s : State) (w : Word) : (s.setDE w).h = s.h := rfl
@[simp] theorem setDE_l (s : State) (w : Word) : (s.setDE w).l = s.l := rfl
@[simp] theorem setDE_sp (s : State) (w : Word) : (s.setDE w).sp = s.sp := rfl
@[simp] theorem setDE_pc (s : State) (w : Word) : (s.setDE w).pc = s.pc := rfl
@[simp] theorem setDE_halted (s : State) (w : Word) : (s.setDE w).halted = s.halted := rfl
@[simp] theorem setDE_ime (s : State) (w : Word) : (s.setDE w).ime = s.ime := rfl
@[simp] theorem setDE_faulted (s : State) (w : Word) : (s.setDE w).faulted = s.faulted := rfl
@[simp] theorem setDE_bus (s : State) (w : Word) : (s.setDE w).bus = s.bus := rfl
@[simp] theorem setDE_cycles (s : State) (w : Word) : (s.setDE w).cycles = s.cycles := rfl
@[simp] theorem setDE_hostWrites (s : State) (w : Word) : (s.setDE w).hostWrites = s.hostWrites := rfl
@[simp] theorem setDE_result (s : State) (w : Word) : (s.setDE w).result = s.result := rfl
@[simp] theorem setDE_busLog (s : State) (w : Word) : (s.setDE w).busLog = s.busLog := rfl

@[simp] theorem setHL_a (s : State) (w : Word) : (s.setHL w).a = s.a := rfl
@[simp] theorem setHL_f (s : State) (w : Word) : (s.setHL w).f = s.f := rfl
@[simp] theorem setHL_b (s : State) (w : Word) : (s.setHL w).b = s.b := rfl
@[simp] theorem setHL_c (s : State) (w : Word) : (s.setHL w).c = s.c := rfl
@[simp] theorem setHL_d (s : State) (w : Word) : (s.setHL w).d = s.d := rfl
@[simp] theorem setHL_e (s : State) (w : Word) : (s.setHL w).e = s.e := rfl
@[simp] theorem setHL_h (s : State) (w : Word) : (s.setHL w).h = hiByte w := rfl
@[simp] theorem setHL_l (s : State) (w : Word) : (s.setHL w).l = loByte w := rfl
@[simp] theorem setHL_sp (s : State) (w : Word) : (s.setHL w).sp = s.sp := rfl
@[simp] theorem setHL_pc (s : State) (w : Word) : (s.setHL w).pc = s.pc := rfl
@[simp] theorem setHL_halted (s : State) (w : Word) : (s.setHL w).halted = s.halted := rfl
@[simp] theorem setHL_ime (s : State) (w : Word) : (s.setHL w).ime = s.ime := rfl
@[simp] theorem setHL_faulted (s : State) (w : Word) : (s.setHL w).faulted = s.faulted := rfl
@[simp] theorem setHL_bus (s : State) (w : Word) : (s.setHL w).bus = s.bus := rfl
@[simp] theorem setHL_cycles (s : State) (w : Word) : (s.setHL w).cycles = s.cycles := rfl
@[simp] theorem setHL_hostWrites (s : State) (w : Word) : (s.setHL w).hostWrites = s.hostWrites := rfl
@[simp] theorem setHL_result (s : State) (w : Word) : (s.setHL w).result = s.result := rfl
@[simp] theorem setHL_busLog (s : State) (w : Word) : (s.setHL w).busLog = s.busLog := rfl

@[simp] theorem setAF_a (s : State) (w : Word) : (s.setAF w).a = hiByte w := rfl
@[simp] theorem setAF_f (s : State) (w : Word) : (s.setAF w).f = loByte w &&& 0xF0 := rfl
@[simp] theorem setAF_b (s : State) (w : Word) : (s.setAF w).b = s.b := rfl
@[simp] theorem setAF_c (s : State) (w : Word) : (s.setAF w).c = s.c := rfl
@[simp] theorem setAF_d (s : State) (w : Word) : (s.setAF w).d = s.d := rfl
@[simp] theorem setAF_e (s : State) (w : Word) : (s.setAF w).e = s.e := rfl
@[simp] theorem setAF_h (s : State) (w : Word) : (s.setAF w).h = s.h := rfl
@[simp] theorem setAF_l (s : State) (w : Word) : (s.setAF w).l = s.l := rfl
@[simp] theorem setAF_sp (s : State) (w : Word) : (s.setAF w).sp = s.sp := rfl
@[simp] theorem setAF_pc (s : State) (w : Word) : (s.setAF w).pc = s.pc := rfl
@[simp] theorem setAF_halted (s : State) (w : Word) : (s.setAF w).halted = s.halted := rfl
@[simp] theorem setAF_ime (s : State) (w : Word) : (s.setAF w).ime = s.ime := rfl
@[simp] theorem setAF_faulted (s : State) (w : Word) : (s.setAF w).faulted = s.faulted := rfl
@[simp] theorem setAF_bus (s : State) (w : Word) : (s.setAF w).bus = s.bus := rfl
@[simp] theorem setAF_cycles (s : State) (w : Word) : (s.setAF w).cycles = s.cycles := rfl
@[simp] theorem setAF_hostWrites (s : State) (w : Word) : (s.setAF w).hostWrites = s.hostWrites := rfl
@[simp] theorem setAF_result (s : State) (w : Word) : (s.setAF w).result = s.result := rfl
@[simp] theorem setAF_busLog (s : State) (w : Word) : (s.setAF w).busLog = s.busLog := rfl

@[simp] theorem busWrite_a (s : State) (addr : Word) (v : Byte) : ((busWrite addr v s)).a = s.a := rfl
@[simp] theorem busWrite_f (s : State) (addr : Word) (v : Byte) : ((busWrite addr v s)).f = s.f := rfl
@[simp] theorem busWrite_b (s : State) (addr : Word) (v : Byte) : ((busWrite addr v s)).b = s.b := rfl
@[simp] theorem busWrite_c (s : State) (addr : Word) (v : Byte) : ((busWrite addr v s)).c = s.c := rfl
@[simp] theorem busWrite_d (s : State) (addr : Word) (v : Byte) : ((busWrite addr v s)).d = s.d := rfl
@[simp] theorem busWrite_e (s : State) (addr : Word) (v : Byte) : ((busWrite addr v s)).e = s.e := rfl
@[simp] theorem busWrite_h (s : State) (addr : Word) (v : Byte) : ((busWrite addr v s)).h = s.h := rfl
@[simp] theorem busWrite_l (s : State) (addr : Word) (v : Byte) : ((busWrite addr v s)).l = s.l := rfl
@[simp] theorem busWrite_sp (s : State) (addr : Word) (v : Byte) : ((busWrite addr v s)).sp = s.sp := rfl
@[simp] theorem busWrite_pc (s : State) (addr : Word) (v : Byte) : ((busWrite addr v s)).pc = s.pc := rfl
@[simp] theorem busWrite_halted (s : State) (addr : Word) (v : Byte) : ((busWrite addr v s)).halted = s.halted := rfl
@[simp] theorem busWrite_ime (s : State) (addr : Word) (v : Byte) : ((busWrite addr v s)).ime = s.ime := rfl
@[simp] theorem busWrite_faulted (s : State) (addr : Word) (v : Byte) : ((busWrite addr v s)).faulted = s.faulted := rfl
@[simp] theorem busWrite_bus (s : State) (addr : Word) (v : Byte) : ((busWrite addr v s)).bus = s.bus.after [.write addr v] := rfl
@[simp] theorem busWrite_cycles (s : State) (addr : Word) (v : Byte) : ((busWrite addr v s)).cycles = s.cycles := rfl
@[simp] theorem busWrite_hostWrites (s : State) (addr : Word) (v : Byte) : ((busWrite addr v s)).hostWrites = s.hostWrites := rfl
@[simp] theorem busWrite_result (s : State) (addr : Word) (v : Byte) : ((busWrite addr v s)).result = s.result := rfl
@[simp] theorem busWrite_busLog (s : State) (addr : Word) (v : Byte) : ((busWrite addr v s)).busLog = s.busLog ++ [.write addr v] := rfl

@[simp] theorem setReg_f (s : State) (r : Reg8) (v : Byte) : (s.setReg r v).f = s.f := by cases r <;> rfl
@[simp] theorem setReg_sp (s : State) (r : Reg8) (v : Byte) : (s.setReg r v).sp = s.sp := by cases r <;> rfl
@[simp] theorem setReg_pc (s : State) (r : Reg8) (v : Byte) : (s.setReg r v).pc = s.pc := by cases r <;> rfl
@[simp] theorem setReg_halted (s : State) (r : Reg8) (v : Byte) : (s.setReg r v).halted = s.halted := by cases r <;> rfl
@[simp] theorem setReg_ime (s : State) (r : Reg8) (v : Byte) : (s.setReg r v).ime = s.ime := by cases r <;> rfl
@[simp] theorem setReg_faulted (s : State) (r : Reg8) (v : Byte) : (s.setReg r v).faulted = s.faulted := by cases r <;> rfl
@[simp] theorem setReg_bus (s : State) (r : Reg8) (v : Byte) : (s.setReg r v).bus = s.bus := by cases r <;> rfl
@[simp] theorem setReg_cycles (s : State) (r : Reg8) (v : Byte) : (s.setReg r v).cycles = s.cycles := by cases r <;> rfl
@[simp] theorem setReg_hostWrites (s : State) (r : Reg8) (v : Byte) : (s.setReg r v).hostWrites = s.hostWrites := by cases r <;> rfl
@[simp] theorem setReg_result (s : State) (r : Reg8) (v : Byte) : (s.setReg r v).result = s.result := by cases r <;> rfl
@[simp] theorem setReg_busLog (s : State) (r : Reg8) (v : Byte) : (s.setReg r v).busLog = s.busLog := by cases r <;> rfl

@[simp] theorem setPair_a (s : State) (p : Pair) (w : Word) : (s.setPair p w).a = s.a := by cases p <;> rfl
@[simp] theorem setPair_f (s : State) (p : Pair) (w : Word) : (s.setPair p w).f = s.f := by cases p <;> rfl
@[simp] theorem setPair_pc (s : State) (p : Pair) (w : Word) : (s.setPair p w).pc = s.pc := by cases p <;> rfl
@[simp] theorem setPair_halted (s : State) (p : Pair) (w : Word) : (s.setPair p w).halted = s.halted := by cases p <;> rfl
@[simp] theorem setPair_ime (s : State) (p : Pair) (w : Word) : (s.setPair p w).ime = s.ime := by cases p <;> rfl
@[simp] theorem setPair_faulted (s : State) (p : Pair) (w : Word) : (s.setPair p w).faulted = s.faulted := by cases p <;> rfl
@[simp] theorem setPair_bus (s : State) (p : Pair) (w : Word) : (s.setPair p w).bus = s.bus := by cases p <;> rfl
@[simp] theorem setPair_cycles (s : State) (p : Pair) (w : Word) : (s.setPair p w).cycles = s.cycles := by cases p <;> rfl
@[simp] theorem setPair_hostWrites (s : State) (p : Pair) (w : Word) : (s.setPair p w).hostWrites = s.hostWrites := by cases p <;> rfl
@[simp] theorem setPair_result (s : State) (p : Pair) (w : Word) : (s.setPair p w).result = s.result := by cases p <;> rfl
@[simp] theorem setPair_busLog (s : State) (p : Pair) (w : Word) : (s.setPair p w).busLog = s.busLog := by cases p <;> rfl

@[simp] theorem setStackPair_sp (s : State) (p : StackPair) (w : Word) : (s.setStackPair p w).sp = s.sp := by cases p <;> rfl
@[simp] theorem setStackPair_pc (s : State) (p : StackPair) (w : Word) : (s.setStackPair p w).pc = s.pc := by cases p <;> rfl
@[simp] theorem setStackPair_halted (s : State) (p : StackPair) (w : Word) : (s.setStackPair p w).halted = s.halted := by cases p <;> rfl
@[simp] theorem setStackPair_ime (s : State) (p : StackPair) (w : Word) : (s.setStackPair p w).ime = s.ime := by cases p <;> rfl
@[simp] theorem setStackPair_faulted (s : State) (p : StackPair) (w : Word) : (s.setStackPair p w).faulted = s.faulted := by cases p <;> rfl
@[simp] theorem setStackPair_bus (s : State) (p : StackPair) (w : Word) : (s.setStackPair p w).bus = s.bus := by cases p <;> rfl
@[simp] theorem setStackPair_cycles (s : State) (p : StackPair) (w : Word) : (s.setStackPair p w).cycles = s.cycles := by cases p <;> rfl
@[simp] theorem setStackPair_hostWrites (s : State) (p : StackPair) (w : Word) : (s.setStackPair p w).hostWrites = s.hostWrites := by cases p <;> rfl
@[simp] theorem setStackPair_result (s : State) (p : StackPair) (w : Word) : (s.setStackPair p w).result = s.result := by cases p <;> rfl
@[simp] theorem setStackPair_busLog (s : State) (p : StackPair) (w : Word) : (s.setStackPair p w).busLog = s.busLog := by cases p <;> rfl

@[simp] theorem push16_a (v : Word) (s : State) :
    (push16 v s).a = s.a := rfl
@[simp] theorem push16_f (v : Word) (s : State) :
    (push16 v s).f = s.f := rfl
@[simp] theorem push16_b (v : Word) (s : State) :
    (push16 v s).b = s.b := rfl
@[simp] theorem push16_c (v : Word) (s : State) :
    (push16 v s).c = s.c := rfl
@[simp] theorem push16_d (v : Word) (s : State) :
    (push16 v s).d = s.d := rfl
@[simp] theorem push16_e (v : Word) (s : State) :
    (push16 v s).e = s.e := rfl
@[simp] theorem push16_h (v : Word) (s : State) :
    (push16 v s).h = s.h := rfl
@[simp] theorem push16_l (v : Word) (s : State) :
    (push16 v s).l = s.l := rfl
@[simp] theorem push16_sp (v : Word) (s : State) :
    (push16 v s).sp = s.sp - 2 := rfl
@[simp] theorem push16_pc (v : Word) (s : State) :
    (push16 v s).pc = s.pc := rfl
@[simp] theorem push16_halted (v : Word) (s : State) :
    (push16 v s).halted = s.halted := rfl
@[simp] theorem push16_ime (v : Word) (s : State) :
    (push16 v s).ime = s.ime := rfl
@[simp] theorem push16_faulted (v : Word) (s : State) :
    (push16 v s).faulted = s.faulted := rfl
@[simp] theorem push16_bus (v : Word) (s : State) :
    (push16 v s).bus = s.bus.after [.write (s.sp - 1) (hiByte v), .write (s.sp - 2) (loByte v)] := rfl
@[simp] theorem push16_cycles (v : Word) (s : State) :
    (push16 v s).cycles = s.cycles := rfl
@[simp] theorem push16_hostWrites (v : Word) (s : State) :
    (push16 v s).hostWrites = s.hostWrites := rfl
@[simp] theorem push16_result (v : Word) (s : State) :
    (push16 v s).result = s.result := rfl
@[simp] theorem push16_busLog (v : Word) (s : State) :
    (push16 v s).busLog = s.busLog ++ [.write (s.sp - 1) (hiByte v), .write (s.sp - 2) (loByte v)] := by simp [push16]

@[simp] theorem pop16_a (s : State) :
    (pop16 s).2.a = s.a := rfl
@[simp] theorem pop16_f (s : State) :
    (pop16 s).2.f = s.f := rfl
@[simp] theorem pop16_b (s : State) :
    (pop16 s).2.b = s.b := rfl
@[simp] theorem pop16_c (s : State) :
    (pop16 s).2.c = s.c := rfl
@[simp] theorem pop16_d (s : State) :
    (pop16 s).2.d = s.d := rfl
@[simp] theorem pop16_e (s : State) :
    (pop16 s).2.e = s.e := rfl
@[simp] theorem pop16_h (s : State) :
    (pop16 s).2.h = s.h := rfl
@[simp] theorem pop16_l (s : State) :
    (pop16 s).2.l = s.l := rfl
@[simp] theorem pop16_sp (s : State) :
    (pop16 s).2.sp = s.sp + 2 := rfl
@[simp] theorem pop16_pc (s : State) :
    (pop16 s).2.pc = s.pc := rfl
@[simp] theorem pop16_halted (s : State) :
    (pop16 s).2.halted = s.halted := rfl
@[simp] theorem pop16_ime (s : State) :
    (pop16 s).2.ime = s.ime := rfl
@[simp] theorem pop16_faulted (s : State) :
    (pop16 s).2.faulted = s.faulted := rfl
@[simp] theorem pop16_bus (s : State) :
    (pop16 s).2.bus = s.bus.after [.read s.sp (s.byteAt s.sp), .read (s.sp + 1) ((s.readAt s.sp).byteAt (s.sp + 1))] := rfl
@[simp] theorem pop16_cycles (s : State) :
    (pop16 s).2.cycles = s.cycles := rfl
@[simp] theorem pop16_hostWrites (s : State) :
    (pop16 s).2.hostWrites = s.hostWrites := rfl
@[simp] theorem pop16_result (s : State) :
    (pop16 s).2.result = s.result := rfl
@[simp] theorem pop16_busLog (s : State) :
    (pop16 s).2.busLog = s.busLog ++ [.read s.sp (s.byteAt s.sp), .read (s.sp + 1) ((s.readAt s.sp).byteAt (s.sp + 1))] := by simp [pop16, busRead]

@[simp] theorem readSel_a (i : Sel8) (s : State) :
    (readSel i s).2.a = s.a := by cases i <;> rfl
@[simp] theorem readSel_f (i : Sel8) (s : State) :
    (readSel i s).2.f = s.f := by cases i <;> rfl
@[simp] theorem readSel_b (i : Sel8) (s : State) :
    (readSel i s).2.b = s.b := by cases i <;> rfl
@[simp] theorem readSel_c (i : Sel8) (s : State) :
    (readSel i s).2.c = s.c := by cases i <;> rfl
@[simp] theorem readSel_d (i : Sel8) (s : State) :
    (readSel i s).2.d = s.d := by cases i <;> rfl
@[simp] theorem readSel_e (i : Sel8) (s : State) :
    (readSel i s).2.e = s.e := by cases i <;> rfl
@[simp] theorem readSel_h (i : Sel8) (s : State) :
    (readSel i s).2.h = s.h := by cases i <;> rfl
@[simp] theorem readSel_l (i : Sel8) (s : State) :
    (readSel i s).2.l = s.l := by cases i <;> rfl
@[simp] theorem readSel_sp (i : Sel8) (s : State) :
    (readSel i s).2.sp = s.sp := by cases i <;> rfl
@[simp] theorem readSel_pc (i : Sel8) (s : State) :
    (readSel i s).2.pc = s.pc := by cases i <;> rfl
@[simp] theorem readSel_halted (i : Sel8) (s : State) :
    (readSel i s).2.halted = s.halted := by cases i <;> rfl
@[simp] theorem readSel_ime (i : Sel8) (s : State) :
    (readSel i s).2.ime = s.ime := by cases i <;> rfl
@[simp] theorem readSel_faulted (i : Sel8) (s : State) :
    (readSel i s).2.faulted = s.faulted := by cases i <;> rfl
@[simp] theorem readSel_cycles (i : Sel8) (s : State) :
    (readSel i s).2.cycles = s.cycles := by cases i <;> rfl
@[simp] theorem readSel_hostWrites (i : Sel8) (s : State) :
    (readSel i s).2.hostWrites = s.hostWrites := by cases i <;> rfl
@[simp] theorem readSel_result (i : Sel8) (s : State) :
    (readSel i s).2.result = s.result := by cases i <;> rfl

@[simp] theorem writeSel_f (i : Sel8) (v : Byte) (s : State) :
    (writeSel i v s).f = s.f := by cases i <;> simp [writeSel]
@[simp] theorem writeSel_sp (i : Sel8) (v : Byte) (s : State) :
    (writeSel i v s).sp = s.sp := by cases i <;> simp [writeSel]
@[simp] theorem writeSel_pc (i : Sel8) (v : Byte) (s : State) :
    (writeSel i v s).pc = s.pc := by cases i <;> simp [writeSel]
@[simp] theorem writeSel_halted (i : Sel8) (v : Byte) (s : State) :
    (writeSel i v s).halted = s.halted := by cases i <;> simp [writeSel]
@[simp] theorem writeSel_ime (i : Sel8) (v : Byte) (s : State) :
    (writeSel i v s).ime = s.ime := by cases i <;> simp [writeSel]
@[simp] theorem writeSel_faulted (i : Sel8) (v : Byte) (s : State) :
    (writeSel i v s).faulted = s.faulted := by cases i <;> simp [writeSel]
@[simp] theorem writeSel_cycles (i : Sel8) (v : Byte) (s : State) :
    (writeSel i v s).cycles = s.cycles := by cases i <;> simp [writeSel]
@[simp] theorem writeSel_hostWrites (i : Sel8) (v : Byte) (s : State) :
    (writeSel i v s).hostWrites = s.hostWrites := by cases i <;> simp [writeSel]
@[simp] theorem writeSel_result (i : Sel8) (v : Byte) (s : State) :
    (writeSel i v s).result = s.result := by cases i <;> simp [writeSel]

/-- Writing a register gives it the value and leaves the six others. -/
theorem reg_setReg (s : State) (r q : Reg8) (v : Byte) : (s.setReg r v).reg q = if q = r then v else s.reg q := by
  cases r <;> cases q <;> rfl

/-- The write of a register touches the seven registers alone. -/
theorem setReg_eq (s : State) (r : Reg8) (v : Byte) :
    s.setReg r v =
    { s with
      a := (s.setReg r v).a, b := (s.setReg r v).b, c := (s.setReg r v).c,
      d := (s.setReg r v).d, e := (s.setReg r v).e, h := (s.setReg r v).h, l := (s.setReg r v).l } := by
  cases r <;> rfl

/-- The write of a pair touches its registers alone. -/
theorem setPair_eq (s : State) (p : Pair) (w : Word) :
    s.setPair p w =
    { s with
      b := (s.setPair p w).b, c := (s.setPair p w).c, d := (s.setPair p w).d,
      e := (s.setPair p w).e, h := (s.setPair p w).h, l := (s.setPair p w).l, sp := (s.setPair p w).sp } := by
  cases p <;> rfl

/-- The write of a pair of R31 touches its registers alone. -/
theorem setStackPair_eq (s : State) (p : StackPair) (w : Word) :
    s.setStackPair p w =
    { s with
      a := (s.setStackPair p w).a, f := (s.setStackPair p w).f,
      b := (s.setStackPair p w).b, c := (s.setStackPair p w).c, d := (s.setStackPair p w).d,
      e := (s.setStackPair p w).e, h := (s.setStackPair p w).h, l := (s.setStackPair p w).l } := by
  cases p <;> rfl

/-- What an address reads as depends on the bus alone. -/
theorem byteAt_congr {s t : State} (h : t.bus = s.bus) (x : Word) : t.byteAt x = s.byteAt x := by
  simp [State.byteAt, h]

end Sys2Proof.Machine
end

