-- ==== Sys2Proof/Laws/Bits.lean ====
section
/-! SUPPORT. Bytes and words, and the flags of F. -/

namespace Sys2Proof.Machine

@[simp] theorem hiByte_joinBytes (hi lo : Byte) : hiByte (joinBytes hi lo) = hi := by
  apply BitVec.eq_of_toNat_eq
  have hh := hi.isLt
  have hl := lo.isLt
  simp only [hiByte, joinBytes, BitVec.extractLsb'_toNat, BitVec.toNat_append, Nat.shiftRight_eq_div_pow,
    Nat.shiftLeft_eq, ← Nat.two_pow_add_eq_or_of_lt hl, Nat.mul_comm hi.toNat]
  omega

@[simp] theorem loByte_joinBytes (hi lo : Byte) : loByte (joinBytes hi lo) = lo := by
  apply BitVec.eq_of_toNat_eq
  have hh := hi.isLt
  have hl := lo.isLt
  simp only [loByte, joinBytes, BitVec.extractLsb'_toNat, BitVec.toNat_append, Nat.shiftRight_eq_div_pow,
    Nat.shiftLeft_eq, ← Nat.two_pow_add_eq_or_of_lt hl, Nat.mul_comm hi.toNat]
  omega

theorem joinBytes_toNat (hi lo : Byte) : (joinBytes hi lo).toNat = hi.toNat * 256 + lo.toNat := by
  have hl := lo.isLt
  simp only [joinBytes, BitVec.toNat_append, Nat.shiftLeft_eq, ← Nat.two_pow_add_eq_or_of_lt hl, Nat.mul_comm hi.toNat]

theorem hiByte_toNat (w : Word) : (hiByte w).toNat = w.toNat / 256 := by
  have := w.isLt
  simp only [hiByte, BitVec.extractLsb'_toNat, Nat.shiftRight_eq_div_pow]
  omega

theorem loByte_toNat (w : Word) : (loByte w).toNat = w.toNat % 256 := by
  simp [loByte, BitVec.extractLsb'_toNat]

@[simp] theorem joinBytes_hiByte_loByte (w : Word) : joinBytes (hiByte w) (loByte w) = w := by
  apply BitVec.eq_of_toNat_eq
  rw [joinBytes_toNat, hiByte_toNat, loByte_toNat]
  omega

@[simp] theorem hl_setHL (s : State) (w : Word) : (s.setHL w).hl = w := by simp [State.hl]
@[simp] theorem bc_setBC (s : State) (w : Word) : (s.setBC w).bc = w := by simp [State.bc]
@[simp] theorem de_setDE (s : State) (w : Word) : (s.setDE w).de = w := by simp [State.de]

/-- Writing a pair of R30 gives it the value and leaves the three others. -/
theorem pair_setPair (s : State) (p q : Pair) (w : Word) :
    (s.setPair p w).pair q = if q = p then w else s.pair q := by
  cases p <;> cases q <;> simp [State.setPair, State.pair, State.bc, State.de, State.hl]

/-- Packed flags are as they were packed, and the low nibble is 0; writing them to F changes nothing of that. -/
theorem packFlags_bits (z n h c : Bool) :
    (packFlags z n h c).getLsbD 7 = z ∧ (packFlags z n h c).getLsbD 6 = n ∧ (packFlags z n h c).getLsbD 5 = h ∧
      (packFlags z n h c).getLsbD 4 = c ∧ packFlags z n h c &&& 0x0F = 0 ∧
      packFlags z n h c &&& 0xF0 = packFlags z n h c := by
  revert z n h c
  decide

@[simp] theorem flagZ_setFlags (s : State) (z n h c : Bool) : (s.setFlags z n h c).flagZ = z := by
  simp only [State.flagZ, setFlags_f, (packFlags_bits z n h c).2.2.2.2.2]
  exact (packFlags_bits z n h c).1

@[simp] theorem flagN_setFlags (s : State) (z n h c : Bool) : (s.setFlags z n h c).flagN = n := by
  simp only [State.flagN, setFlags_f, (packFlags_bits z n h c).2.2.2.2.2]
  exact (packFlags_bits z n h c).2.1

@[simp] theorem flagH_setFlags (s : State) (z n h c : Bool) : (s.setFlags z n h c).flagH = h := by
  simp only [State.flagH, setFlags_f, (packFlags_bits z n h c).2.2.2.2.2]
  exact (packFlags_bits z n h c).2.2.1

@[simp] theorem flagC_setFlags (s : State) (z n h c : Bool) : (s.setFlags z n h c).flagC = c := by
  simp only [State.flagC, setFlags_f, (packFlags_bits z n h c).2.2.2.2.2]
  exact (packFlags_bits z n h c).2.2.2.1

/-- A byte masked with 0xF0 has low nibble 0. -/
theorem mask_lowNibble (v : Byte) : v &&& 0xF0 &&& 0x0F = 0 := by
  rw [BitVec.and_assoc, show (0xF0 : Byte) &&& 0x0F = 0#8 from rfl]
  exact BitVec.and_zero

/-- Every write of F leaves the low nibble 0 (10_state.md R23). -/
theorem setF_lowNibble (s : State) (v : Byte) : (s.setF v).f &&& 0x0F = 0 := mask_lowNibble v

/-- Setting the four flags touches F alone. -/
theorem setFlags_eq (s : State) (z n h c : Bool) :
    s.setFlags z n h c = { s with f := packFlags z n h c &&& 0xF0 } := rfl

end Sys2Proof.Machine
end

