-- ==== Sys2Proof/Laws/Memory.lean ====
section
/-! SUPPORT. The laws of the store and the bus: read after write, what transactions and host changes do, and that every memory
operation keeps the canonical form. -/

namespace Sys2Proof.Machine

theorem Memory.read_erase (m : Memory) (addr x : Nat) :
    Memory.read (Memory.erase m addr) x = if x = addr then Config.unlistedByte else Memory.read m x := by
  induction m with
  | nil => simp [Memory.erase, Memory.read]
  | cons cell rest ih =>
    obtain ⟨k, w⟩ := cell
    by_cases hk : k = addr
    · simp only [Memory.erase, hk, ne_eq, not_true_eq_false, decide_false, Bool.false_eq_true, not_false_eq_true,
        List.filter_cons_of_neg] at ih ⊢
      rw [ih]
      split
      · rfl
      · next hx => simp [Memory.read, Ne.symm hx]
    · simp only [Memory.erase, hk, ne_eq, not_false_eq_true, decide_true, List.filter_cons_of_pos, Memory.read] at ih ⊢
      rw [ih]
      split
      · next hx => simp [← hx, hk]
      · rfl

theorem Memory.read_insert (m : Memory) (addr x : Nat) (v : Byte) (h : ∀ c ∈ m, c.1 ≠ addr) :
    Memory.read (Memory.insert addr v m) x = if x = addr then v else Memory.read m x := by
  induction m with
  | nil =>
    by_cases hx : x = addr
    · simp [Memory.insert, Memory.read, hx]
    · simp [Memory.insert, Memory.read, hx, Ne.symm hx]
  | cons cell rest ih =>
    obtain ⟨k, w⟩ := cell
    have hk : k ≠ addr := h (k, w) (by simp)
    have hrest := ih fun c hc => h c (by simp [hc])
    by_cases hlt : addr < k
    · by_cases hx : x = addr
      · simp [Memory.insert, Memory.read, hlt, hx]
      · simp [Memory.insert, Memory.read, hlt, hx, Ne.symm hx]
    · simp only [Memory.insert, hlt, if_false, Memory.read, hrest]
      split
      · next hkx => simp [← hkx, hk]
      · rfl

theorem Memory.erase_free (m : Memory) (addr : Nat) : ∀ c ∈ Memory.erase m addr, c.1 ≠ addr := by
  intro c hc
  simpa using (List.mem_filter.mp hc).2

/-- A read after a write gives the value written; every other address reads as before. -/
theorem Memory.read_write (m : Memory) (addr x : Nat) (v : Byte) :
    Memory.read (Memory.write m addr v) x = if x = addr then v else Memory.read m x := by
  unfold Memory.write
  split
  · next hv => rw [Memory.read_erase, hv]
  · rw [Memory.read_insert _ _ _ _ (Memory.erase_free m addr), Memory.read_erase]
    split <;> rfl

theorem Memory.wfFrom_mono {lo lo' : Nat} {m : Memory} (hlo : lo' ≤ lo) (h : Memory.wfFrom lo m = true) :
    Memory.wfFrom lo' m = true := by
  cases m with
  | nil => rfl
  | cons cell rest =>
    obtain ⟨k, w⟩ := cell
    simp only [Memory.wfFrom, Bool.and_eq_true, decide_eq_true_eq] at h ⊢
    exact ⟨⟨⟨by omega, h.1.1.2⟩, h.1.2⟩, h.2⟩

theorem Memory.wfFrom_erase {lo : Nat} {m : Memory} (addr : Nat) (h : Memory.wfFrom lo m = true) :
    Memory.wfFrom lo (Memory.erase m addr) = true := by
  induction m generalizing lo with
  | nil => rfl
  | cons cell rest ih =>
    obtain ⟨k, w⟩ := cell
    simp only [Memory.wfFrom, Bool.and_eq_true, decide_eq_true_eq] at h
    have hrest := ih h.2
    by_cases hk : k = addr
    · have : Memory.erase ((k, w) :: rest) addr = Memory.erase rest addr := by simp [Memory.erase, hk]
      rw [this]
      exact Memory.wfFrom_mono (by omega) hrest
    · have : Memory.erase ((k, w) :: rest) addr = (k, w) :: Memory.erase rest addr := by simp [Memory.erase, hk]
      rw [this]
      simp only [Memory.wfFrom, Bool.and_eq_true, decide_eq_true_eq]
      exact ⟨h.1, hrest⟩

theorem Memory.wfFrom_insert {lo : Nat} {m : Memory} {addr : Nat} {v : Byte} (hlo : lo ≤ addr)
    (haddr : addr < Config.addressCount) (hv : v ≠ Config.unlistedByte) (hfree : ∀ c ∈ m, c.1 ≠ addr)
    (h : Memory.wfFrom lo m = true) : Memory.wfFrom lo (Memory.insert addr v m) = true := by
  induction m generalizing lo with
  | nil => simp [Memory.insert, Memory.wfFrom, hlo, haddr, hv]
  | cons cell rest ih =>
    obtain ⟨k, w⟩ := cell
    simp only [Memory.wfFrom, Bool.and_eq_true, decide_eq_true_eq] at h
    have hk : k ≠ addr := hfree (k, w) (by simp)
    by_cases hlt : addr < k
    · simp only [Memory.insert, hlt, if_true, Memory.wfFrom, Bool.and_eq_true, decide_eq_true_eq]
      exact ⟨⟨⟨hlo, haddr⟩, hv⟩, ⟨⟨⟨by omega, h.1.1.2⟩, h.1.2⟩, h.2⟩⟩
    · simp only [Memory.insert, hlt, if_false, Memory.wfFrom, Bool.and_eq_true, decide_eq_true_eq]
      exact ⟨h.1, ih (by omega) (fun c hc => hfree c (by simp [hc])) h.2⟩

/-- A write inside the address space keeps the canonical form. -/
theorem Memory.wf_write {m : Memory} {addr : Nat} (v : Byte) (haddr : addr < Config.addressCount)
    (h : Memory.wf m = true) : Memory.wf (Memory.write m addr v) = true := by
  unfold Memory.wf Memory.write at *
  split
  · exact Memory.wfFrom_erase addr h
  · next hv => exact Memory.wfFrom_insert (Nat.zero_le _) haddr hv (Memory.erase_free m addr) (Memory.wfFrom_erase addr h)

/-- Every 16-bit address is inside the address space. -/
theorem word_lt_addressCount (x : Word) : x.toNat < Config.addressCount := x.isLt

/-- Bytes stored from outside the core keep the canonical form. -/
theorem Memory.wf_store {m : Memory} (cells : List (Word × Byte)) (h : Memory.wf m = true) :
    Memory.wf (Memory.store m cells) = true := by
  induction cells generalizing m with
  | nil => exact h
  | cons cell rest ih => exact ih (Memory.wf_write cell.2 (word_lt_addressCount cell.1) h)

/-- Storing bytes from outside changes the listed addresses alone. -/
theorem Memory.read_store_of_not_mem {m : Memory} {cells : List (Word × Byte)} {x : Word}
    (h : ∀ cell ∈ cells, cell.1 ≠ x) : Memory.read (Memory.store m cells) x.toNat = Memory.read m x.toNat := by
  induction cells generalizing m with
  | nil => rfl
  | cons cell rest ih =>
    have hx : x.toNat ≠ cell.1.toNat := fun e => h cell (by simp) (BitVec.eq_of_toNat_eq e).symm
    exact (ih fun c hc => h c (by simp [hc])).trans (by rw [Memory.read_write, if_neg hx])

/-- A read finds the byte stored last at its address. -/
theorem Memory.read_store (m : Memory) (cells : List (Word × Byte)) (x : Word) :
    Memory.read (Memory.store m cells) x.toNat =
      ((cells.reverse.find? fun cell => decide (cell.1 = x)).map Prod.snd).getD (Memory.read m x.toNat) := by
  induction cells generalizing m with
  | nil => rfl
  | cons cell rest ih =>
    obtain ⟨k, w⟩ := cell
    rw [Memory.store, ih, List.reverse_cons, List.find?_append]
    cases hf : rest.reverse.find? fun cell => decide (cell.1 = x) with
    | some c => rfl
    | none =>
      rw [Memory.read_write]
      by_cases hx : k = x
      · simp [hx]
      · have hn : x.toNat ≠ k.toNat := fun e => hx (BitVec.eq_of_toNat_eq e).symm
        simp [hx, hn]

/-! The bus -/

/-- Where the reference bus keeps a write (20_memory.md R66). -/
theorem keepsWrite_iff (policy : RomWrite) (addr : Word) :
    keepsWrite policy addr = true ↔ 0x8000 ≤ addr.toNat ∨ policy = .store := by
  simp only [keepsWrite, Bool.or_eq_true, decide_eq_true_eq]
  exact Iff.rfl

@[simp] theorem keepsWrite_store (addr : Word) : keepsWrite .store addr = true := by simp [keepsWrite]

@[simp] theorem Bus.after_nil (b : Bus) : b.after [] = b := rfl

/-- Transactions reach a bus one after the other (20_memory.md R57). -/
theorem Bus.after_append (b : Bus) (log1 log2 : List BusEvent) : b.after (log1 ++ log2) = (b.after log1).after log2 := by
  induction log1 generalizing b with
  | nil => rfl
  | cons ev rest ih => exact ih _

@[simp] theorem Bus.after_after (b : Bus) (log1 log2 : List BusEvent) :
    (b.after log1).after log2 = b.after (log1 ++ log2) := (Bus.after_append b log1 log2).symm

/-- A read leaves the reference bus as it was (R59). -/
@[simp] theorem Bus.after_read_flat (policy : RomWrite) (m : Memory) (addr : Word) (v : Byte) (log : List BusEvent) :
    (Bus.flat policy m).after (.read addr v :: log) = (Bus.flat policy m).after log := rfl

@[simp] theorem Bus.after_write_flat (policy : RomWrite) (m : Memory) (addr : Word) (v : Byte) (log : List BusEvent) :
    (Bus.flat policy m).after (.write addr v :: log) =
      (Bus.flat policy (if keepsWrite policy addr then Memory.write m addr.toNat v else m)).after log := rfl

/-- The reference bus stays one, under its policy. -/
theorem Bus.after_flat (policy : RomWrite) (m : Memory) (log : List BusEvent) :
    ∃ m', (Bus.flat policy m).after log = .flat policy m' := by
  induction log generalizing m with
  | nil => exact ⟨m, rfl⟩
  | cons ev rest ih => cases ev <;> exact ih _

/-- A write to the reference bus: the byte, if it is kept; every other address answers as before (R66). -/
theorem Bus.answer_write_flat (policy : RomWrite) (m : Memory) (addr x : Word) (v : Byte) :
    ((Bus.flat policy m).after [.write addr v]).answer x =
      if x = addr ∧ keepsWrite policy addr = true then v else (Bus.flat policy m).answer x := by
  cases hk : keepsWrite policy addr
  · simp [Bus.answer, hk]
  · simp [Bus.answer, hk, Memory.read_write, BitVec.toNat_inj]

/-- A byte that transactions change on the reference bus was written by one of them. -/
theorem Bus.answer_changed {policy : RomWrite} {m : Memory} {log : List BusEvent} {x : Word}
    (h : ((Bus.flat policy m).after log).answer x ≠ (Bus.flat policy m).answer x) : ∃ v : Byte, .write x v ∈ log := by
  induction log generalizing m with
  | nil => exact absurd rfl h
  | cons ev rest ih =>
    cases ev with
    | read addr v =>
      obtain ⟨w, hw⟩ := ih h
      exact ⟨w, List.mem_cons_of_mem _ hw⟩
    | write addr v =>
      by_cases hx : x = addr
      · exact ⟨v, by simp [hx]⟩
      · have hstep := Bus.answer_write_flat policy m addr x v
        simp only [hx, false_and, if_false] at hstep
        rw [← hstep] at h
        exact (ih h).imp fun w hw => List.mem_cons_of_mem _ hw

/-- Under `ignore` no transaction changes a byte of the cartridge. -/
theorem Bus.answer_ignore {m : Memory} {log : List BusEvent} {x : Word} (hx : x.toNat < Config.cartridgeEnd) :
    ((Bus.flat .ignore m).after log).answer x = (Bus.flat .ignore m).answer x := by
  induction log generalizing m with
  | nil => rfl
  | cons ev rest ih =>
    cases ev with
    | read addr v => exact ih
    | write addr v =>
      refine ih.trans ((Bus.answer_write_flat .ignore m addr x v).trans (if_neg fun ⟨he, hk⟩ => ?_))
      rw [← he, keepsWrite_iff] at hk
      simp only [reduceCtorEq, or_false] at hk
      have : x.toNat < 0x8000 := hx
      omega

/-- Transactions keep the canonical form of the store. -/
theorem Bus.wf_after {b : Bus} (log : List BusEvent) (h : b.wf = true) : (b.after log).wf = true := by
  induction log generalizing b with
  | nil => exact h
  | cons ev rest ih =>
    apply ih
    cases b with
    | other id inputs => cases ev <;> rfl
    | flat policy m =>
      cases ev with
      | read addr v => exact h
      | write addr v =>
        simp only [Bus.afterEvent, Bus.wf] at h ⊢
        split
        · exact Memory.wf_write v (word_lt_addressCount addr) h
        · exact h

@[simp] theorem Bus.hostChange_nil (b : Bus) : b.hostChange [] = b := by cases b <;> rfl

/-- A change by the host is a store into the reference bus's memory (R69). -/
@[simp] theorem Bus.hostChange_flat (policy : RomWrite) (m : Memory) (cells : List (Word × Byte)) :
    (Bus.flat policy m).hostChange cells = .flat policy (Memory.store m cells) := by cases cells <;> rfl

/-- A change by the host keeps the canonical form. -/
theorem Bus.wf_hostChange {b : Bus} (cells : List (Word × Byte)) (h : b.wf = true) : (b.hostChange cells).wf = true := by
  cases b with
  | flat policy m =>
    rw [Bus.hostChange_flat]
    exact Memory.wf_store cells h
  | other id inputs => cases cells <;> rfl

/-- A load from outside keeps the canonical form. -/
theorem Bus.wf_load {b : Bus} (cells : List (Word × Byte)) (h : b.wf = true) : (b.load cells).wf = true := by
  cases b with
  | flat policy m => exact Memory.wf_store cells h
  | other id inputs => exact Memory.wf_store cells rfl

/-- The reset bus is canonical. -/
theorem Bus.wf_reset : State.reset.bus.wf = true := rfl

end Sys2Proof.Machine
end

