-- ==== Sys2Proof/Laws/Ops.lean ====
section
/-! SUPPORT. Each shared operation over the bus and the stack, said once. -/

namespace Sys2Proof.Machine

/-- Transactions in two parts are the transactions together. -/
@[simp] theorem transact_transact (s : State) (log1 log2 : List BusEvent) :
    (s.transact log1).transact log2 = s.transact (log1 ++ log2) := by
  simp [State.transact]

/-- A read leaves every byte of the reference bus as it was (20_memory.md R59, R66). -/
theorem byteAt_readAt_flat {s : State} {policy : RomWrite} {m : Memory} (h : s.bus = .flat policy m) (addr x : Word) :
    (s.readAt addr).byteAt x = s.byteAt x := by
  simp [State.byteAt, h]

/-- A bus write is one transaction; on the reference bus it changes the byte at its address, if it is kept there. -/
theorem busWrite_spec (addr : Word) (v : Byte) (s : State) :
    busWrite addr v s = s.transact [.write addr v] ∧ MemoryAfterWrite s (busWrite addr v s) addr v := by
  refine ⟨rfl, fun policy m h x => ?_⟩
  simp only [State.byteAt, busWrite_bus, h]
  exact Bus.answer_write_flat policy m addr x v

/-- A read changes no byte of the reference bus. -/
theorem memoryKept_readAt (s : State) (addr : Word) : MemoryKept s (s.readAt addr) :=
  fun _ _ h x => byteAt_readAt_flat h addr x

/-- A read and then a write. -/
theorem memoryAfterReadWrite (s t : State) (addr1 addr2 : Word) (v1 v2 : Byte)
    (h : t.bus = s.bus.after [.read addr1 v1, .write addr2 v2]) : MemoryAfterWrite s t addr2 v2 := by
  intro policy m hb x
  simpa [State.byteAt, h, hb] using Bus.answer_write_flat policy m addr2 x v2

/-- Two transactions in a row that write. -/
theorem memoryAfterWrites (s t : State) (addr1 addr2 : Word) (v1 v2 : Byte)
    (h : t.bus = s.bus.after [.write addr1 v1, .write addr2 v2]) : MemoryAfterWrites s t addr1 v1 addr2 v2 := by
  intro policy m hb x
  have h1 := Bus.answer_write_flat policy m addr1 x v1
  obtain ⟨m1, hm1⟩ := Bus.after_flat policy m [.write addr1 v1]
  have h2 := Bus.answer_write_flat policy m1 addr2 x v2
  rw [hm1] at h1
  rw [← hm1, Bus.after_after, List.singleton_append, hm1, h1] at h2
  simpa only [State.byteAt, h, hb] using h2

/-- What a push does (00_scope.md R9). -/
theorem push16_spec (v : Word) (s : State) :
    push16 v s =
        { s.transact [.write (s.sp - 1) (hiByte v), .write (s.sp - 2) (loByte v)] with sp := s.sp - 2 } ∧
      MemoryAfterWrites s (push16 v s) (s.sp - 1) (hiByte v) (s.sp - 2) (loByte v) := by
  refine ⟨?_, memoryAfterWrites _ _ _ _ _ _ (push16_bus v s)⟩
  simp [push16, busWrite]

/-- What a pop does (R9): the high byte is read after the low one. -/
theorem pop16_spec (s : State) :
    pop16 s =
      (joinBytes ((s.readAt s.sp).byteAt (s.sp + 1)) (s.byteAt s.sp),
        { s.transact [.read s.sp (s.byteAt s.sp), .read (s.sp + 1) ((s.readAt s.sp).byteAt (s.sp + 1))] with
          sp := s.sp + 2 }) := by
  simp [pop16, busRead, State.readAt]

/-- Reading the selector's (HL) form is one bus read. -/
theorem readSel_atHL (s : State) : readSel .atHL s = (s.byteAt s.hl, s.afterReadAtHL) := rfl

@[simp] theorem hl_afterReadAtHL (s : State) : s.afterReadAtHL.hl = s.hl := rfl

/-- The write of a register, as the statements say it. -/
theorem regWritten_setReg (s : State) (d : Reg8) (v : Byte) : RegWritten s (s.setReg d v) d v :=
  ⟨fun r => reg_setReg s d r v, setReg_eq s d v⟩

/-- The write of a pair, as the statements say it. -/
theorem pairWritten_setPair (s : State) (p : Pair) (w : Word) : PairWritten s (s.setPair p w) p w :=
  ⟨fun q => pair_setPair s p q w, setPair_eq s p w⟩

/-- Setting the flags, as the statements say it. -/
theorem flagsAre_setFlags (s : State) (z n h c : Bool) : (s.setFlags z n h c).FlagsAre z n h c :=
  ⟨flagZ_setFlags .., flagN_setFlags .., flagH_setFlags .., flagC_setFlags .., mask_lowNibble _⟩

end Sys2Proof.Machine
end

