-- ==== Sys2Proof/Laws/Fetch.lean ====
section
/-! SUPPORT. Fetching and decoding: what a fetch reads, and that what it reads always decodes. -/

namespace Sys2Proof.Machine

/-- A fetched byte is the byte at PC; PC moves by one after one bus read. -/
theorem fetch8_spec (s : State) : fetch8 s = (s.byteAt s.pc, { s.readAt s.pc with pc := s.pc + 1 }) := rfl

theorem readEvents_length (k : Nat) (s : State) (addr : Word) : (s.readEvents addr k).length = k := by
  induction k generalizing s addr with
  | zero => rfl
  | succ k ih => simp [State.readEvents, ih]

/-- The reads depend on the bus alone. -/
theorem readEvents_congr {s t : State} (k : Nat) (addr : Word) (h : t.bus = s.bus) :
    t.readEvents addr k = s.readEvents addr k := by
  induction k generalizing s t addr with
  | zero => rfl
  | succ k ih =>
    have hb : t.byteAt addr = s.byteAt addr := byteAt_congr h addr
    simp only [State.readEvents, hb, List.cons.injEq, true_and]
    exact ih (addr + 1) (by simp [h, hb])

/-- The fewer reads are the first of the more. -/
theorem readEvents_take (j k : Nat) (s : State) (addr : Word) (h : j ≤ k) :
    (s.readEvents addr k).take j = s.readEvents addr j := by
  induction k generalizing s addr j with
  | zero => cases j with
    | zero => rfl
    | succ j => omega
  | succ k ih => cases j with
    | zero => rfl
    | succ j => simp [State.readEvents, ih j _ _ (by omega)]

/-- On the reference bus a read leaves the next ones as they were: each is of the byte that stood there at the start. -/
theorem readEvents_flat {s : State} {policy : RomWrite} {m : Memory} (k : Nat) (addr : Word) (h : s.bus = .flat policy m) :
    s.readEvents addr (k + 1) = .read addr (s.byteAt addr) :: s.readEvents (addr + 1) k := by
  rw [State.readEvents, readEvents_congr k (addr + 1) (t := s.readAt addr) (s := s) (by simp [h])]

/-- The bytes at PC on the reference bus. -/
theorem bytesAtPC_flat {s : State} {policy : RomWrite} {m : Memory} (h : s.bus = .flat policy m) :
    s.bytesAtPC = [s.byteAt s.pc, s.byteAt (s.pc + 1), s.byteAt (s.pc + 2)] := by
  have hpc : s.pc + 1 + 1 = s.pc + 2 := by bv_omega
  simp only [State.bytesAtPC, State.fetchReads, readEvents_flat _ _ h, hpc, List.map_cons,
    BusEvent.byte]
  rfl

/-- What fetching `k` bytes does: the bytes are those its reads answer, PC moves by `k`, nothing else changes. -/
theorem fetchBytes_eq (k : Nat) (s : State) :
    fetchBytes k s =
      ((s.fetchReads k).map BusEvent.byte, { s.transact (s.fetchReads k) with pc := s.pc + BitVec.ofNat 16 k }) := by
  induction k generalizing s with
  | zero => simp [fetchBytes, State.fetchReads, State.readEvents, State.transact]
  | succ k ih =>
    have hpc : s.pc + 1 + BitVec.ofNat 16 k = s.pc + BitVec.ofNat 16 (k + 1) := by
      rw [BitVec.ofNat_add, BitVec.add_comm (BitVec.ofNat 16 k), ← BitVec.add_assoc]
      rfl
    have hr : ({ s.readAt s.pc with pc := s.pc + 1 } : State).fetchReads k = (s.readAt s.pc).readEvents (s.pc + 1) k :=
      readEvents_congr k (s.pc + 1) rfl
    have hk : s.fetchReads (k + 1) = .read s.pc (s.byteAt s.pc) :: (s.readAt s.pc).readEvents (s.pc + 1) k := rfl
    simp only [fetchBytes, fetch8_spec, ih, hr, hpc, hk, List.map_cons, BusEvent.byte]
    simp [State.transact]

/-- An entry's length is 1, 2 or 3 (30_encoding.md R80). -/
theorem instrLength_cases (op : Byte) : instrLength op = 1 ∨ instrLength op = 2 ∨ instrLength op = 3 := by
  unfold instrLength Entry.length
  split <;> simp

/-- What a fetch does (R102): as many bytes as the first one asks for are read, the first of the three at PC; PC moves past
them; nothing else changes. -/
theorem fetchInstr_eq (s : State) :
    fetchInstr s =
      (s.bytesAtPC.take (instrLength (s.byteAt s.pc)),
        { s.transact (s.fetchReads (instrLength (s.byteAt s.pc))) with
          pc := s.pc + BitVec.ofNat 16 (instrLength (s.byteAt s.pc)) }) := by
  have h : fetchInstr s = fetchBytes (instrLength (s.byteAt s.pc)) s := by
    rcases instrLength_cases (s.byteAt s.pc) with h | h | h <;> simp [fetchInstr, fetch8_spec, fetchBytes, h]
  have hk : instrLength (s.byteAt s.pc) ≤ 3 := by rcases instrLength_cases (s.byteAt s.pc) with h | h | h <;> omega
  rw [h, fetchBytes_eq, State.bytesAtPC, ← List.map_take, State.fetchReads, State.fetchReads, readEvents_take _ _ _ _ hk]

/-- The three bytes at PC, the first of which is the opcode. -/
theorem bytesAtPC_eq (s : State) : ∃ b1 b2, s.bytesAtPC = [s.byteAt s.pc, b1, b2] := ⟨_, _, rfl⟩

/-- Three bytes always hold one instruction: it decodes from exactly its own bytes, and from all three with the others
left over. -/
theorem decode_three (op b1 b2 : Byte) :
    ∃ i, decode ([op, b1, b2].take (instrLength op)) = .ok (i, []) ∧
      decode [op, b1, b2] = .ok (i, [op, b1, b2].drop (instrLength op)) := by
  unfold instrLength
  cases h : primaryEntry op with
  | op i => exact ⟨i, by simp [Entry.length, decode, h, Entry.complete], by simp [Entry.length, decode, h, Entry.complete]⟩
  | opN8 k =>
    exact ⟨k b1, by simp [Entry.length, decode, h, Entry.complete], by simp [Entry.length, decode, h, Entry.complete]⟩
  | opN16 k =>
    exact ⟨k (joinBytes b2 b1), by simp [Entry.length, decode, h, Entry.complete],
      by simp [Entry.length, decode, h, Entry.complete]⟩
  | escape =>
    exact ⟨extendedInstr b1, by simp [Entry.length, decode, h, Entry.complete],
      by simp [Entry.length, decode, h, Entry.complete]⟩

/-- A fetch always gives the words of one instruction. -/
theorem decode_bytesAtPC (s : State) :
    ∃ i, decode (s.bytesAtPC.take (instrLength (s.byteAt s.pc))) = .ok (i, []) ∧
      decode s.bytesAtPC = .ok (i, s.bytesAtPC.drop (instrLength (s.byteAt s.pc))) := by
  obtain ⟨b1, b2, hb⟩ := bytesAtPC_eq s
  rw [hb]
  exact decode_three _ b1 b2

end Sys2Proof.Machine
end

