-- ==== Sys2Proof/Laws/Operation.lean ====
section
/-! SUPPORT. The instructions by shared operation: 502 constructors, 43 operations. `exec_eq_run` turns a proof about `exec` into one
about an operation, so that no later proof splits on every constructor of `Instr`. -/

namespace Sys2Proof.Machine

/-- An address form of the loads, stores and jumps. -/
inductive AddrForm where
  | bc | de | hl
  | imm (nn : Word)
  | highC
  | highN (n : Byte)
deriving DecidableEq, Repr

/-- The address a form names. -/
def AddrForm.eval (x : AddrForm) (s : State) : Word :=
  match x with
  | .bc => s.bc
  | .de => s.de
  | .hl => s.hl
  | .imm nn => nn
  | .highC => highPage s.c
  | .highN n => highPage n

/-- A shared operation with its operands. -/
inductive Operation where
  | copyByte (dst src : Sel8)
  | loadImmediate (dst : Sel8) (n : Byte)
  | loadA (x : AddrForm)
  | storeA (x : AddrForm)
  | storeAStepHL (delta : Word)
  | loadAStepHL (delta : Word)
  | loadPair (p : Pair) (nn : Word)
  | storeSP (nn : Word)
  | copyHLToSP
  | offsetSPToHL (e : Byte)
  | pushPair (p : StackPair)
  | popPair (p : StackPair)
  | noOperation
  | enterHalt
  | writeIme (v : Bool)
  | undefinedOpcode (op : Byte)
  | extendedEntry (op2 : Byte)
  | aluSelector (o : AluOp) (src : Sel8)
  | aluImmediate (o : AluOp) (n : Byte)
  | incrementByte (i : Sel8)
  | decrementByte (i : Sel8)
  | decimalAdjust
  | complementA
  | setCarry
  | complementCarry
  | addPairToHL (p : Pair)
  | addToPair (p : Pair) (delta : Word)
  | addOffsetToSP (e : Byte)
  | rotateA (k : RotKind)
  | rotateSelector (k : RotKind) (i : Sel8)
  | testBit (b : Fin 8) (i : Sel8)
  | resetBit (b : Fin 8) (i : Sel8)
  | setBit (b : Fin 8) (i : Sel8)
  | jumpTo (x : AddrForm)
  | jumpIf (k : Cond) (nn : Word)
  | jumpRelative (e : Byte)
  | jumpRelativeIf (k : Cond) (e : Byte)
  | callTo (nn : Word)
  | callIf (k : Cond) (nn : Word)
  | returnFromCall
  | returnIf (k : Cond)
  | returnFromInterrupt
  | restart (n : Fin 8)
deriving DecidableEq, Repr

/-- What an operation does. -/
def Operation.run (o : Operation) (s : State) : Outcome :=
  match o with
  | .copyByte dst src => Machine.copyByte dst src s
  | .loadImmediate dst n => Machine.loadImmediate dst n s
  | .loadA x => Machine.loadA (x.eval s) s
  | .storeA x => Machine.storeA (x.eval s) s
  | .storeAStepHL delta => Machine.storeAStepHL delta s
  | .loadAStepHL delta => Machine.loadAStepHL delta s
  | .loadPair p nn => Machine.loadPair p nn s
  | .storeSP nn => Machine.storeSP nn s
  | .copyHLToSP => Machine.copyHLToSP s
  | .offsetSPToHL e => Machine.offsetSPToHL e s
  | .pushPair p => Machine.pushPair p s
  | .popPair p => Machine.popPair p s
  | .noOperation => Machine.noOperation s
  | .enterHalt => Machine.enterHalt s
  | .writeIme v => Machine.writeIme v s
  | .undefinedOpcode op => Machine.undefinedOpcode op s
  | .extendedEntry op2 => Machine.extendedEntry op2 s
  | .aluSelector o src => Machine.aluSelector o src s
  | .aluImmediate o n => Machine.aluImmediate o n s
  | .incrementByte i => Machine.incrementByte i s
  | .decrementByte i => Machine.decrementByte i s
  | .decimalAdjust => Machine.decimalAdjust s
  | .complementA => Machine.complementA s
  | .setCarry => Machine.setCarry s
  | .complementCarry => Machine.complementCarry s
  | .addPairToHL p => Machine.addPairToHL p s
  | .addToPair p delta => Machine.addToPair p delta s
  | .addOffsetToSP e => Machine.addOffsetToSP e s
  | .rotateA k => Machine.rotateA k s
  | .rotateSelector k i => Machine.rotateSelector k i s
  | .testBit b i => Machine.testBit b i s
  | .resetBit b i => Machine.resetBit b i s
  | .setBit b i => Machine.setBit b i s
  | .jumpTo x => Machine.jumpTo (x.eval s) s
  | .jumpIf k nn => Machine.jumpIf k nn s
  | .jumpRelative e => Machine.jumpRelative e s
  | .jumpRelativeIf k e => Machine.jumpRelativeIf k e s
  | .callTo nn => Machine.callTo nn s
  | .callIf k nn => Machine.callIf k nn s
  | .returnFromCall => Machine.returnFromCall s
  | .returnIf k => Machine.returnIf k s
  | .returnFromInterrupt => Machine.returnFromInterrupt s
  | .restart n => Machine.restart n s

/-- The operation of an instruction. -/
def instrOperation (i : Instr) : Operation :=
  match i with
  | .nop => .noOperation
  | .ld_BC_nn nn => .loadPair .BC nn
  | .ld_atBC_A => .storeA .bc
  | .inc_BC => .addToPair .BC 1
  | .inc_B => .incrementByte (.reg .B)
  | .dec_B => .decrementByte (.reg .B)
  | .ld_B_n n => .loadImmediate (.reg .B) n
  | .rlca => .rotateA .rlc
  | .ld_atnn_SP nn => .storeSP nn
  | .add_HL_BC => .addPairToHL .BC
  | .ld_A_atBC => .loadA .bc
  | .dec_BC => .addToPair .BC (-1)
  | .inc_C => .incrementByte (.reg .C)
  | .dec_C => .decrementByte (.reg .C)
  | .ld_C_n n => .loadImmediate (.reg .C) n
  | .rrca => .rotateA .rrc
  | .stop => .noOperation
  | .ld_DE_nn nn => .loadPair .DE nn
  | .ld_atDE_A => .storeA .de
  | .inc_DE => .addToPair .DE 1
  | .inc_D => .incrementByte (.reg .D)
  | .dec_D => .decrementByte (.reg .D)
  | .ld_D_n n => .loadImmediate (.reg .D) n
  | .rla => .rotateA .rl
  | .jr_e e => .jumpRelative e
  | .add_HL_DE => .addPairToHL .DE
  | .ld_A_atDE => .loadA .de
  | .dec_DE => .addToPair .DE (-1)
  | .inc_E => .incrementByte (.reg .E)
  | .dec_E => .decrementByte (.reg .E)
  | .ld_E_n n => .loadImmediate (.reg .E) n
  | .rra => .rotateA .rr
  | .jr_NZ_e e => .jumpRelativeIf .NZ e
  | .ld_HL_nn nn => .loadPair .HL nn
  | .ld_atHLi_A => .storeAStepHL 1
  | .inc_HL => .addToPair .HL 1
  | .inc_H => .incrementByte (.reg .H)
  | .dec_H => .decrementByte (.reg .H)
  | .ld_H_n n => .loadImmediate (.reg .H) n
  | .daa => .decimalAdjust
  | .jr_Z_e e => .jumpRelativeIf .Z e
  | .add_HL_HL => .addPairToHL .HL
  | .ld_A_atHLi => .loadAStepHL 1
  | .dec_HL => .addToPair .HL (-1)
  | .inc_L => .incrementByte (.reg .L)
  | .dec_L => .decrementByte (.reg .L)
  | .ld_L_n n => .loadImmediate (.reg .L) n
  | .cpl => .complementA
  | .jr_NC_e e => .jumpRelativeIf .NC e
  | .ld_SP_nn nn => .loadPair .SP nn
  | .ld_atHLd_A => .storeAStepHL (-1)
  | .inc_SP => .addToPair .SP 1
  | .inc_atHL => .incrementByte .atHL
  | .dec_atHL => .decrementByte .atHL
  | .ld_atHL_n n => .loadImmediate .atHL n
  | .scf => .setCarry
  | .jr_C_e e => .jumpRelativeIf .C e
  | .add_HL_SP => .addPairToHL .SP
  | .ld_A_atHLd => .loadAStepHL (-1)
  | .dec_SP => .addToPair .SP (-1)
  | .inc_A => .incrementByte (.reg .A)
  | .dec_A => .decrementByte (.reg .A)
  | .ld_A_n n => .loadImmediate (.reg .A) n
  | .ccf => .complementCarry
  | .ld_B_B => .copyByte (.reg .B) (.reg .B)
  | .ld_B_C => .copyByte (.reg .B) (.reg .C)
  | .ld_B_D => .copyByte (.reg .B) (.reg .D)
  | .ld_B_E => .copyByte (.reg .B) (.reg .E)
  | .ld_B_H => .copyByte (.reg .B) (.reg .H)
  | .ld_B_L => .copyByte (.reg .B) (.reg .L)
  | .ld_B_atHL => .copyByte (.reg .B) .atHL
  | .ld_B_A => .copyByte (.reg .B) (.reg .A)
  | .ld_C_B => .copyByte (.reg .C) (.reg .B)
  | .ld_C_C => .copyByte (.reg .C) (.reg .C)
  | .ld_C_D => .copyByte (.reg .C) (.reg .D)
  | .ld_C_E => .copyByte (.reg .C) (.reg .E)
  | .ld_C_H => .copyByte (.reg .C) (.reg .H)
  | .ld_C_L => .copyByte (.reg .C) (.reg .L)
  | .ld_C_atHL => .copyByte (.reg .C) .atHL
  | .ld_C_A => .copyByte (.reg .C) (.reg .A)
  | .ld_D_B => .copyByte (.reg .D) (.reg .B)
  | .ld_D_C => .copyByte (.reg .D) (.reg .C)
  | .ld_D_D => .copyByte (.reg .D) (.reg .D)
  | .ld_D_E => .copyByte (.reg .D) (.reg .E)
  | .ld_D_H => .copyByte (.reg .D) (.reg .H)
  | .ld_D_L => .copyByte (.reg .D) (.reg .L)
  | .ld_D_atHL => .copyByte (.reg .D) .atHL
  | .ld_D_A => .copyByte (.reg .D) (.reg .A)
  | .ld_E_B => .copyByte (.reg .E) (.reg .B)
  | .ld_E_C => .copyByte (.reg .E) (.reg .C)
  | .ld_E_D => .copyByte (.reg .E) (.reg .D)
  | .ld_E_E => .copyByte (.reg .E) (.reg .E)
  | .ld_E_H => .copyByte (.reg .E) (.reg .H)
  | .ld_E_L => .copyByte (.reg .E) (.reg .L)
  | .ld_E_atHL => .copyByte (.reg .E) .atHL
  | .ld_E_A => .copyByte (.reg .E) (.reg .A)
  | .ld_H_B => .copyByte (.reg .H) (.reg .B)
  | .ld_H_C => .copyByte (.reg .H) (.reg .C)
  | .ld_H_D => .copyByte (.reg .H) (.reg .D)
  | .ld_H_E => .copyByte (.reg .H) (.reg .E)
  | .ld_H_H => .copyByte (.reg .H) (.reg .H)
  | .ld_H_L => .copyByte (.reg .H) (.reg .L)
  | .ld_H_atHL => .copyByte (.reg .H) .atHL
  | .ld_H_A => .copyByte (.reg .H) (.reg .A)
  | .ld_L_B => .copyByte (.reg .L) (.reg .B)
  | .ld_L_C => .copyByte (.reg .L) (.reg .C)
  | .ld_L_D => .copyByte (.reg .L) (.reg .D)
  | .ld_L_E => .copyByte (.reg .L) (.reg .E)
  | .ld_L_H => .copyByte (.reg .L) (.reg .H)
  | .ld_L_L => .copyByte (.reg .L) (.reg .L)
  | .ld_L_atHL => .copyByte (.reg .L) .atHL
  | .ld_L_A => .copyByte (.reg .L) (.reg .A)
  | .ld_atHL_B => .copyByte .atHL (.reg .B)
  | .ld_atHL_C => .copyByte .atHL (.reg .C)
  | .ld_atHL_D => .copyByte .atHL (.reg .D)
  | .ld_atHL_E => .copyByte .atHL (.reg .E)
  | .ld_atHL_H => .copyByte .atHL (.reg .H)
  | .ld_atHL_L => .copyByte .atHL (.reg .L)
  | .halt => .enterHalt
  | .ld_atHL_A => .copyByte .atHL (.reg .A)
  | .ld_A_B => .copyByte (.reg .A) (.reg .B)
  | .ld_A_C => .copyByte (.reg .A) (.reg .C)
  | .ld_A_D => .copyByte (.reg .A) (.reg .D)
  | .ld_A_E => .copyByte (.reg .A) (.reg .E)
  | .ld_A_H => .copyByte (.reg .A) (.reg .H)
  | .ld_A_L => .copyByte (.reg .A) (.reg .L)
  | .ld_A_atHL => .copyByte (.reg .A) .atHL
  | .ld_A_A => .copyByte (.reg .A) (.reg .A)
  | .add_A_B => .aluSelector .add (.reg .B)
  | .add_A_C => .aluSelector .add (.reg .C)
  | .add_A_D => .aluSelector .add (.reg .D)
  | .add_A_E => .aluSelector .add (.reg .E)
  | .add_A_H => .aluSelector .add (.reg .H)
  | .add_A_L => .aluSelector .add (.reg .L)
  | .add_A_atHL => .aluSelector .add .atHL
  | .add_A_A => .aluSelector .add (.reg .A)
  | .adc_A_B => .aluSelector .adc (.reg .B)
  | .adc_A_C => .aluSelector .adc (.reg .C)
  | .adc_A_D => .aluSelector .adc (.reg .D)
  | .adc_A_E => .aluSelector .adc (.reg .E)
  | .adc_A_H => .aluSelector .adc (.reg .H)
  | .adc_A_L => .aluSelector .adc (.reg .L)
  | .adc_A_atHL => .aluSelector .adc .atHL
  | .adc_A_A => .aluSelector .adc (.reg .A)
  | .sub_B => .aluSelector .sub (.reg .B)
  | .sub_C => .aluSelector .sub (.reg .C)
  | .sub_D => .aluSelector .sub (.reg .D)
  | .sub_E => .aluSelector .sub (.reg .E)
  | .sub_H => .aluSelector .sub (.reg .H)
  | .sub_L => .aluSelector .sub (.reg .L)
  | .sub_atHL => .aluSelector .sub .atHL
  | .sub_A => .aluSelector .sub (.reg .A)
  | .sbc_A_B => .aluSelector .sbc (.reg .B)
  | .sbc_A_C => .aluSelector .sbc (.reg .C)
  | .sbc_A_D => .aluSelector .sbc (.reg .D)
  | .sbc_A_E => .aluSelector .sbc (.reg .E)
  | .sbc_A_H => .aluSelector .sbc (.reg .H)
  | .sbc_A_L => .aluSelector .sbc (.reg .L)
  | .sbc_A_atHL => .aluSelector .sbc .atHL
  | .sbc_A_A => .aluSelector .sbc (.reg .A)
  | .and_B => .aluSelector .and (.reg .B)
  | .and_C => .aluSelector .and (.reg .C)
  | .and_D => .aluSelector .and (.reg .D)
  | .and_E => .aluSelector .and (.reg .E)
  | .and_H => .aluSelector .and (.reg .H)
  | .and_L => .aluSelector .and (.reg .L)
  | .and_atHL => .aluSelector .and .atHL
  | .and_A => .aluSelector .and (.reg .A)
  | .xor_B => .aluSelector .xor (.reg .B)
  | .xor_C => .aluSelector .xor (.reg .C)
  | .xor_D => .aluSelector .xor (.reg .D)
  | .xor_E => .aluSelector .xor (.reg .E)
  | .xor_H => .aluSelector .xor (.reg .H)
  | .xor_L => .aluSelector .xor (.reg .L)
  | .xor_atHL => .aluSelector .xor .atHL
  | .xor_A => .aluSelector .xor (.reg .A)
  | .or_B => .aluSelector .or (.reg .B)
  | .or_C => .aluSelector .or (.reg .C)
  | .or_D => .aluSelector .or (.reg .D)
  | .or_E => .aluSelector .or (.reg .E)
  | .or_H => .aluSelector .or (.reg .H)
  | .or_L => .aluSelector .or (.reg .L)
  | .or_atHL => .aluSelector .or .atHL
  | .or_A => .aluSelector .or (.reg .A)
  | .cp_B => .aluSelector .cp (.reg .B)
  | .cp_C => .aluSelector .cp (.reg .C)
  | .cp_D => .aluSelector .cp (.reg .D)
  | .cp_E => .aluSelector .cp (.reg .E)
  | .cp_H => .aluSelector .cp (.reg .H)
  | .cp_L => .aluSelector .cp (.reg .L)
  | .cp_atHL => .aluSelector .cp .atHL
  | .cp_A => .aluSelector .cp (.reg .A)
  | .ret_NZ => .returnIf .NZ
  | .pop_BC => .popPair .BC
  | .jp_NZ_nn nn => .jumpIf .NZ nn
  | .jp_nn nn => .jumpTo (.imm nn)
  | .call_NZ_nn nn => .callIf .NZ nn
  | .push_BC => .pushPair .BC
  | .add_A_n n => .aluImmediate .add n
  | .rst_00 => .restart 0
  | .ret_Z => .returnIf .Z
  | .ret => .returnFromCall
  | .jp_Z_nn nn => .jumpIf .Z nn
  | .prefixCb op2 => .extendedEntry op2
  | .call_Z_nn nn => .callIf .Z nn
  | .call_nn nn => .callTo nn
  | .adc_A_n n => .aluImmediate .adc n
  | .rst_08 => .restart 1
  | .ret_NC => .returnIf .NC
  | .pop_DE => .popPair .DE
  | .jp_NC_nn nn => .jumpIf .NC nn
  | .undefined op => .undefinedOpcode op
  | .call_NC_nn nn => .callIf .NC nn
  | .push_DE => .pushPair .DE
  | .sub_n n => .aluImmediate .sub n
  | .rst_10 => .restart 2
  | .ret_C => .returnIf .C
  | .reti => .returnFromInterrupt
  | .jp_C_nn nn => .jumpIf .C nn
  | .call_C_nn nn => .callIf .C nn
  | .sbc_A_n n => .aluImmediate .sbc n
  | .rst_18 => .restart 3
  | .ldh_atn_A n => .storeA (.highN n)
  | .pop_HL => .popPair .HL
  | .ldh_atC_A => .storeA .highC
  | .push_HL => .pushPair .HL
  | .and_n n => .aluImmediate .and n
  | .rst_20 => .restart 4
  | .add_SP_e e => .addOffsetToSP e
  | .jp_HL => .jumpTo .hl
  | .ld_atnn_A nn => .storeA (.imm nn)
  | .xor_n n => .aluImmediate .xor n
  | .rst_28 => .restart 5
  | .ldh_A_atn n => .loadA (.highN n)
  | .pop_AF => .popPair .AF
  | .ldh_A_atC => .loadA .highC
  | .di => .writeIme false
  | .push_AF => .pushPair .AF
  | .or_n n => .aluImmediate .or n
  | .rst_30 => .restart 6
  | .ld_HL_SPe e => .offsetSPToHL e
  | .ld_SP_HL => .copyHLToSP
  | .ld_A_atnn nn => .loadA (.imm nn)
  | .ei => .writeIme true
  | .cp_n n => .aluImmediate .cp n
  | .rst_38 => .restart 7
  | .rlc_B => .rotateSelector .rlc (.reg .B)
  | .rlc_C => .rotateSelector .rlc (.reg .C)
  | .rlc_D => .rotateSelector .rlc (.reg .D)
  | .rlc_E => .rotateSelector .rlc (.reg .E)
  | .rlc_H => .rotateSelector .rlc (.reg .H)
  | .rlc_L => .rotateSelector .rlc (.reg .L)
  | .rlc_atHL => .rotateSelector .rlc .atHL
  | .rlc_A => .rotateSelector .rlc (.reg .A)
  | .rrc_B => .rotateSelector .rrc (.reg .B)
  | .rrc_C => .rotateSelector .rrc (.reg .C)
  | .rrc_D => .rotateSelector .rrc (.reg .D)
  | .rrc_E => .rotateSelector .rrc (.reg .E)
  | .rrc_H => .rotateSelector .rrc (.reg .H)
  | .rrc_L => .rotateSelector .rrc (.reg .L)
  | .rrc_atHL => .rotateSelector .rrc .atHL
  | .rrc_A => .rotateSelector .rrc (.reg .A)
  | .rl_B => .rotateSelector .rl (.reg .B)
  | .rl_C => .rotateSelector .rl (.reg .C)
  | .rl_D => .rotateSelector .rl (.reg .D)
  | .rl_E => .rotateSelector .rl (.reg .E)
  | .rl_H => .rotateSelector .rl (.reg .H)
  | .rl_L => .rotateSelector .rl (.reg .L)
  | .rl_atHL => .rotateSelector .rl .atHL
  | .rl_A => .rotateSelector .rl (.reg .A)
  | .rr_B => .rotateSelector .rr (.reg .B)
  | .rr_C => .rotateSelector .rr (.reg .C)
  | .rr_D => .rotateSelector .rr (.reg .D)
  | .rr_E => .rotateSelector .rr (.reg .E)
  | .rr_H => .rotateSelector .rr (.reg .H)
  | .rr_L => .rotateSelector .rr (.reg .L)
  | .rr_atHL => .rotateSelector .rr .atHL
  | .rr_A => .rotateSelector .rr (.reg .A)
  | .sla_B => .rotateSelector .sla (.reg .B)
  | .sla_C => .rotateSelector .sla (.reg .C)
  | .sla_D => .rotateSelector .sla (.reg .D)
  | .sla_E => .rotateSelector .sla (.reg .E)
  | .sla_H => .rotateSelector .sla (.reg .H)
  | .sla_L => .rotateSelector .sla (.reg .L)
  | .sla_atHL => .rotateSelector .sla .atHL
  | .sla_A => .rotateSelector .sla (.reg .A)
  | .sra_B => .rotateSelector .sra (.reg .B)
  | .sra_C => .rotateSelector .sra (.reg .C)
  | .sra_D => .rotateSelector .sra (.reg .D)
  | .sra_E => .rotateSelector .sra (.reg .E)
  | .sra_H => .rotateSelector .sra (.reg .H)
  | .sra_L => .rotateSelector .sra (.reg .L)
  | .sra_atHL => .rotateSelector .sra .atHL
  | .sra_A => .rotateSelector .sra (.reg .A)
  | .swap_B => .rotateSelector .swap (.reg .B)
  | .swap_C => .rotateSelector .swap (.reg .C)
  | .swap_D => .rotateSelector .swap (.reg .D)
  | .swap_E => .rotateSelector .swap (.reg .E)
  | .swap_H => .rotateSelector .swap (.reg .H)
  | .swap_L => .rotateSelector .swap (.reg .L)
  | .swap_atHL => .rotateSelector .swap .atHL
  | .swap_A => .rotateSelector .swap (.reg .A)
  | .srl_B => .rotateSelector .srl (.reg .B)
  | .srl_C => .rotateSelector .srl (.reg .C)
  | .srl_D => .rotateSelector .srl (.reg .D)
  | .srl_E => .rotateSelector .srl (.reg .E)
  | .srl_H => .rotateSelector .srl (.reg .H)
  | .srl_L => .rotateSelector .srl (.reg .L)
  | .srl_atHL => .rotateSelector .srl .atHL
  | .srl_A => .rotateSelector .srl (.reg .A)
  | .bit_0_B => .testBit 0 (.reg .B)
  | .bit_0_C => .testBit 0 (.reg .C)
  | .bit_0_D => .testBit 0 (.reg .D)
  | .bit_0_E => .testBit 0 (.reg .E)
  | .bit_0_H => .testBit 0 (.reg .H)
  | .bit_0_L => .testBit 0 (.reg .L)
  | .bit_0_atHL => .testBit 0 .atHL
  | .bit_0_A => .testBit 0 (.reg .A)
  | .bit_1_B => .testBit 1 (.reg .B)
  | .bit_1_C => .testBit 1 (.reg .C)
  | .bit_1_D => .testBit 1 (.reg .D)
  | .bit_1_E => .testBit 1 (.reg .E)
  | .bit_1_H => .testBit 1 (.reg .H)
  | .bit_1_L => .testBit 1 (.reg .L)
  | .bit_1_atHL => .testBit 1 .atHL
  | .bit_1_A => .testBit 1 (.reg .A)
  | .bit_2_B => .testBit 2 (.reg .B)
  | .bit_2_C => .testBit 2 (.reg .C)
  | .bit_2_D => .testBit 2 (.reg .D)
  | .bit_2_E => .testBit 2 (.reg .E)
  | .bit_2_H => .testBit 2 (.reg .H)
  | .bit_2_L => .testBit 2 (.reg .L)
  | .bit_2_atHL => .testBit 2 .atHL
  | .bit_2_A => .testBit 2 (.reg .A)
  | .bit_3_B => .testBit 3 (.reg .B)
  | .bit_3_C => .testBit 3 (.reg .C)
  | .bit_3_D => .testBit 3 (.reg .D)
  | .bit_3_E => .testBit 3 (.reg .E)
  | .bit_3_H => .testBit 3 (.reg .H)
  | .bit_3_L => .testBit 3 (.reg .L)
  | .bit_3_atHL => .testBit 3 .atHL
  | .bit_3_A => .testBit 3 (.reg .A)
  | .bit_4_B => .testBit 4 (.reg .B)
  | .bit_4_C => .testBit 4 (.reg .C)
  | .bit_4_D => .testBit 4 (.reg .D)
  | .bit_4_E => .testBit 4 (.reg .E)
  | .bit_4_H => .testBit 4 (.reg .H)
  | .bit_4_L => .testBit 4 (.reg .L)
  | .bit_4_atHL => .testBit 4 .atHL
  | .bit_4_A => .testBit 4 (.reg .A)
  | .bit_5_B => .testBit 5 (.reg .B)
  | .bit_5_C => .testBit 5 (.reg .C)
  | .bit_5_D => .testBit 5 (.reg .D)
  | .bit_5_E => .testBit 5 (.reg .E)
  | .bit_5_H => .testBit 5 (.reg .H)
  | .bit_5_L => .testBit 5 (.reg .L)
  | .bit_5_atHL => .testBit 5 .atHL
  | .bit_5_A => .testBit 5 (.reg .A)
  | .bit_6_B => .testBit 6 (.reg .B)
  | .bit_6_C => .testBit 6 (.reg .C)
  | .bit_6_D => .testBit 6 (.reg .D)
  | .bit_6_E => .testBit 6 (.reg .E)
  | .bit_6_H => .testBit 6 (.reg .H)
  | .bit_6_L => .testBit 6 (.reg .L)
  | .bit_6_atHL => .testBit 6 .atHL
  | .bit_6_A => .testBit 6 (.reg .A)
  | .bit_7_B => .testBit 7 (.reg .B)
  | .bit_7_C => .testBit 7 (.reg .C)
  | .bit_7_D => .testBit 7 (.reg .D)
  | .bit_7_E => .testBit 7 (.reg .E)
  | .bit_7_H => .testBit 7 (.reg .H)
  | .bit_7_L => .testBit 7 (.reg .L)
  | .bit_7_atHL => .testBit 7 .atHL
  | .bit_7_A => .testBit 7 (.reg .A)
  | .res_0_B => .resetBit 0 (.reg .B)
  | .res_0_C => .resetBit 0 (.reg .C)
  | .res_0_D => .resetBit 0 (.reg .D)
  | .res_0_E => .resetBit 0 (.reg .E)
  | .res_0_H => .resetBit 0 (.reg .H)
  | .res_0_L => .resetBit 0 (.reg .L)
  | .res_0_atHL => .resetBit 0 .atHL
  | .res_0_A => .resetBit 0 (.reg .A)
  | .res_1_B => .resetBit 1 (.reg .B)
  | .res_1_C => .resetBit 1 (.reg .C)
  | .res_1_D => .resetBit 1 (.reg .D)
  | .res_1_E => .resetBit 1 (.reg .E)
  | .res_1_H => .resetBit 1 (.reg .H)
  | .res_1_L => .resetBit 1 (.reg .L)
  | .res_1_atHL => .resetBit 1 .atHL
  | .res_1_A => .resetBit 1 (.reg .A)
  | .res_2_B => .resetBit 2 (.reg .B)
  | .res_2_C => .resetBit 2 (.reg .C)
  | .res_2_D => .resetBit 2 (.reg .D)
  | .res_2_E => .resetBit 2 (.reg .E)
  | .res_2_H => .resetBit 2 (.reg .H)
  | .res_2_L => .resetBit 2 (.reg .L)
  | .res_2_atHL => .resetBit 2 .atHL
  | .res_2_A => .resetBit 2 (.reg .A)
  | .res_3_B => .resetBit 3 (.reg .B)
  | .res_3_C => .resetBit 3 (.reg .C)
  | .res_3_D => .resetBit 3 (.reg .D)
  | .res_3_E => .resetBit 3 (.reg .E)
  | .res_3_H => .resetBit 3 (.reg .H)
  | .res_3_L => .resetBit 3 (.reg .L)
  | .res_3_atHL => .resetBit 3 .atHL
  | .res_3_A => .resetBit 3 (.reg .A)
  | .res_4_B => .resetBit 4 (.reg .B)
  | .res_4_C => .resetBit 4 (.reg .C)
  | .res_4_D => .resetBit 4 (.reg .D)
  | .res_4_E => .resetBit 4 (.reg .E)
  | .res_4_H => .resetBit 4 (.reg .H)
  | .res_4_L => .resetBit 4 (.reg .L)
  | .res_4_atHL => .resetBit 4 .atHL
  | .res_4_A => .resetBit 4 (.reg .A)
  | .res_5_B => .resetBit 5 (.reg .B)
  | .res_5_C => .resetBit 5 (.reg .C)
  | .res_5_D => .resetBit 5 (.reg .D)
  | .res_5_E => .resetBit 5 (.reg .E)
  | .res_5_H => .resetBit 5 (.reg .H)
  | .res_5_L => .resetBit 5 (.reg .L)
  | .res_5_atHL => .resetBit 5 .atHL
  | .res_5_A => .resetBit 5 (.reg .A)
  | .res_6_B => .resetBit 6 (.reg .B)
  | .res_6_C => .resetBit 6 (.reg .C)
  | .res_6_D => .resetBit 6 (.reg .D)
  | .res_6_E => .resetBit 6 (.reg .E)
  | .res_6_H => .resetBit 6 (.reg .H)
  | .res_6_L => .resetBit 6 (.reg .L)
  | .res_6_atHL => .resetBit 6 .atHL
  | .res_6_A => .resetBit 6 (.reg .A)
  | .res_7_B => .resetBit 7 (.reg .B)
  | .res_7_C => .resetBit 7 (.reg .C)
  | .res_7_D => .resetBit 7 (.reg .D)
  | .res_7_E => .resetBit 7 (.reg .E)
  | .res_7_H => .resetBit 7 (.reg .H)
  | .res_7_L => .resetBit 7 (.reg .L)
  | .res_7_atHL => .resetBit 7 .atHL
  | .res_7_A => .resetBit 7 (.reg .A)
  | .set_0_B => .setBit 0 (.reg .B)
  | .set_0_C => .setBit 0 (.reg .C)
  | .set_0_D => .setBit 0 (.reg .D)
  | .set_0_E => .setBit 0 (.reg .E)
  | .set_0_H => .setBit 0 (.reg .H)
  | .set_0_L => .setBit 0 (.reg .L)
  | .set_0_atHL => .setBit 0 .atHL
  | .set_0_A => .setBit 0 (.reg .A)
  | .set_1_B => .setBit 1 (.reg .B)
  | .set_1_C => .setBit 1 (.reg .C)
  | .set_1_D => .setBit 1 (.reg .D)
  | .set_1_E => .setBit 1 (.reg .E)
  | .set_1_H => .setBit 1 (.reg .H)
  | .set_1_L => .setBit 1 (.reg .L)
  | .set_1_atHL => .setBit 1 .atHL
  | .set_1_A => .setBit 1 (.reg .A)
  | .set_2_B => .setBit 2 (.reg .B)
  | .set_2_C => .setBit 2 (.reg .C)
  | .set_2_D => .setBit 2 (.reg .D)
  | .set_2_E => .setBit 2 (.reg .E)
  | .set_2_H => .setBit 2 (.reg .H)
  | .set_2_L => .setBit 2 (.reg .L)
  | .set_2_atHL => .setBit 2 .atHL
  | .set_2_A => .setBit 2 (.reg .A)
  | .set_3_B => .setBit 3 (.reg .B)
  | .set_3_C => .setBit 3 (.reg .C)
  | .set_3_D => .setBit 3 (.reg .D)
  | .set_3_E => .setBit 3 (.reg .E)
  | .set_3_H => .setBit 3 (.reg .H)
  | .set_3_L => .setBit 3 (.reg .L)
  | .set_3_atHL => .setBit 3 .atHL
  | .set_3_A => .setBit 3 (.reg .A)
  | .set_4_B => .setBit 4 (.reg .B)
  | .set_4_C => .setBit 4 (.reg .C)
  | .set_4_D => .setBit 4 (.reg .D)
  | .set_4_E => .setBit 4 (.reg .E)
  | .set_4_H => .setBit 4 (.reg .H)
  | .set_4_L => .setBit 4 (.reg .L)
  | .set_4_atHL => .setBit 4 .atHL
  | .set_4_A => .setBit 4 (.reg .A)
  | .set_5_B => .setBit 5 (.reg .B)
  | .set_5_C => .setBit 5 (.reg .C)
  | .set_5_D => .setBit 5 (.reg .D)
  | .set_5_E => .setBit 5 (.reg .E)
  | .set_5_H => .setBit 5 (.reg .H)
  | .set_5_L => .setBit 5 (.reg .L)
  | .set_5_atHL => .setBit 5 .atHL
  | .set_5_A => .setBit 5 (.reg .A)
  | .set_6_B => .setBit 6 (.reg .B)
  | .set_6_C => .setBit 6 (.reg .C)
  | .set_6_D => .setBit 6 (.reg .D)
  | .set_6_E => .setBit 6 (.reg .E)
  | .set_6_H => .setBit 6 (.reg .H)
  | .set_6_L => .setBit 6 (.reg .L)
  | .set_6_atHL => .setBit 6 .atHL
  | .set_6_A => .setBit 6 (.reg .A)
  | .set_7_B => .setBit 7 (.reg .B)
  | .set_7_C => .setBit 7 (.reg .C)
  | .set_7_D => .setBit 7 (.reg .D)
  | .set_7_E => .setBit 7 (.reg .E)
  | .set_7_H => .setBit 7 (.reg .H)
  | .set_7_L => .setBit 7 (.reg .L)
  | .set_7_atHL => .setBit 7 .atHL
  | .set_7_A => .setBit 7 (.reg .A)

/-- The meaning of an instruction is its operation. -/
theorem exec_eq_run (i : Instr) (s : State) : exec i s = (instrOperation i).run s := by
  cases i <;> rfl

end Sys2Proof.Machine
end

