-- ==== Sys2Proof/Laws/Meaning.lean ====
section
/-! SUPPORT. What an operation can do to the parts of the state that are not operands, said once: it answers a next state, makes at
most two bus transactions, its bus writes are the only change of memory, it keeps the low nibble of F at 0, and only
four operations touch a latch or the step's outcome (`Operation.run_cases`). -/

namespace Sys2Proof.Machine

/-- `t` comes from `s` by at most `k` bus transactions and changes of registers and flags: the bus is as the transactions
leave it, no latch, parameter or outcome changes, and the low nibble of F stays 0. -/
structure Frame (k : Nat) (s t : State) : Prop where
  log : ∃ evs, t.busLog = s.busLog ++ evs ∧ evs.length ≤ k ∧ t.bus = s.bus.after evs
  lowNibble : s.f &&& 0x0F = 0 → t.f &&& 0x0F = 0
  rest : t.halted = s.halted ∧ t.ime = s.ime ∧ t.faulted = s.faulted ∧ t.cycles = s.cycles ∧
    t.hostWrites = s.hostWrites ∧ t.result = s.result

/-- Two such changes, one after the other. -/
theorem Frame.trans {j k : Nat} {s t u : State} (h1 : Frame j s t) (h2 : Frame k t u) : Frame (j + k) s u := by
  obtain ⟨evs1, hl1, hn1, hb1⟩ := h1.log
  obtain ⟨evs2, hl2, hn2, hb2⟩ := h2.log
  obtain ⟨a1, a2, a3, a4, a5, a6⟩ := h1.rest
  obtain ⟨b1, b2, b3, b4, b5, b6⟩ := h2.rest
  exact
    { log :=
        ⟨evs1 ++ evs2, by rw [hl2, hl1, List.append_assoc], by rw [List.length_append]; omega,
          by rw [hb2, hb1, Bus.after_append]⟩
      lowNibble := fun h => h2.lowNibble (h1.lowNibble h)
      rest := ⟨b1.trans a1, b2.trans a2, b3.trans a3, b4.trans a4, b5.trans a5, b6.trans a6⟩ }

theorem Frame.mono {j k : Nat} {s t : State} (h : Frame j s t) (hk : j ≤ k) : Frame k s t := by
  obtain ⟨evs, hl, hn, hb⟩ := h.log
  exact { h with log := ⟨evs, hl, by omega, hb⟩ }

/-- A change of registers alone. -/
theorem Frame.ofRegs {s t : State} (hlog : t.busLog = s.busLog) (hbus : t.bus = s.bus)
    (hf : s.f &&& 0x0F = 0 → t.f &&& 0x0F = 0)
    (hrest : t.halted = s.halted ∧ t.ime = s.ime ∧ t.faulted = s.faulted ∧ t.cycles = s.cycles ∧
      t.hostWrites = s.hostWrites ∧ t.result = s.result) : Frame 0 s t :=
  { log := ⟨[], by rw [hlog, List.append_nil], by simp, hbus⟩, lowNibble := hf, rest := hrest }

theorem Frame.refl (s : State) : Frame 0 s s := Frame.ofRegs rfl rfl id ⟨rfl, rfl, rfl, rfl, rfl, rfl⟩

/-- Bus transactions alone. -/
theorem frame_transact (s : State) (evs : List BusEvent) : Frame evs.length s (s.transact evs) :=
  { log := ⟨evs, rfl, Nat.le_refl _, rfl⟩, lowNibble := id, rest := ⟨rfl, rfl, rfl, rfl, rfl, rfl⟩ }

theorem frame_busRead (addr : Word) (s : State) : Frame 1 s (busRead addr s).2 :=
  frame_transact s [.read addr (s.byteAt addr)]

theorem frame_busWrite (addr : Word) (v : Byte) (s : State) : Frame 1 s (busWrite addr v s) :=
  frame_transact s [.write addr v]

theorem frame_setReg (s : State) (r : Reg8) (v : Byte) : Frame 0 s (s.setReg r v) := by
  cases r <;> exact Frame.ofRegs rfl rfl id ⟨rfl, rfl, rfl, rfl, rfl, rfl⟩

theorem frame_setPair (s : State) (p : Pair) (w : Word) : Frame 0 s (s.setPair p w) := by
  cases p <;> exact Frame.ofRegs rfl rfl id ⟨rfl, rfl, rfl, rfl, rfl, rfl⟩

theorem frame_setFlags (s : State) (z n h c : Bool) : Frame 0 s (s.setFlags z n h c) :=
  Frame.ofRegs rfl rfl (fun _ => mask_lowNibble _) ⟨rfl, rfl, rfl, rfl, rfl, rfl⟩

theorem frame_setStackPair (s : State) (p : StackPair) (w : Word) : Frame 0 s (s.setStackPair p w) := by
  cases p
  · exact Frame.ofRegs rfl rfl id ⟨rfl, rfl, rfl, rfl, rfl, rfl⟩
  · exact Frame.ofRegs rfl rfl id ⟨rfl, rfl, rfl, rfl, rfl, rfl⟩
  · exact Frame.ofRegs rfl rfl id ⟨rfl, rfl, rfl, rfl, rfl, rfl⟩
  · exact Frame.ofRegs rfl rfl (fun _ => mask_lowNibble _) ⟨rfl, rfl, rfl, rfl, rfl, rfl⟩

theorem frame_setHL (s : State) (w : Word) : Frame 0 s (s.setHL w) := frame_setPair s .HL w

theorem frame_a (s : State) (v : Byte) : Frame 0 s { s with a := v } := frame_setReg s .A v

theorem frame_sp (s : State) (w : Word) : Frame 0 s { s with sp := w } := frame_setPair s .SP w

theorem frame_pc (s : State) (w : Word) : Frame 0 s { s with pc := w } := Frame.ofRegs rfl rfl id ⟨rfl, rfl, rfl, rfl, rfl, rfl⟩

theorem frame_readSel (i : Sel8) (s : State) : Frame 1 s (readSel i s).2 := by
  cases i with
  | reg r => exact (Frame.refl s).mono (by omega)
  | atHL => exact frame_busRead _ s

theorem frame_writeSel (i : Sel8) (v : Byte) (s : State) : Frame 1 s (writeSel i v s) := by
  cases i with
  | reg r => exact (frame_setReg s r v).mono (by omega)
  | atHL => exact frame_busWrite _ v s

theorem frame_push16 (v : Word) (s : State) : Frame 2 s (push16 v s) :=
  ((frame_busWrite _ _ s).trans (frame_busWrite _ _ _)).trans (frame_sp _ _)

theorem frame_pop16 (s : State) : Frame 2 s (pop16 s).2 :=
  ((frame_busRead _ s).trans (frame_busRead _ _)).trans (frame_sp _ _)

theorem frame_aluOnA (o : AluOp) (v : Byte) (s : State) : Frame 0 s (aluOnA o v s) :=
  (frame_a s _).trans (frame_setFlags _ _ _ _ _)

theorem frame_pushPCAndJump (target : Word) (s : State) : Frame 2 s (pushPCAndJump target s) :=
  (frame_push16 _ s).trans (frame_pc _ _)

theorem frame_popPC (s : State) : Frame 2 s (popPC s) := (frame_pop16 s).trans (frame_pc _ _)

/-- The operations that touch a latch or the step's outcome. -/
def Operation.latching (o : Operation) : Bool :=
  match o with
  | .enterHalt | .writeIme _ | .undefinedOpcode _ | .returnFromInterrupt => true
  | _ => false

/-- The escape's operation is the operation of the instruction the decoder reads (30_encoding.md R99). -/
theorem extendedEntry_run (op2 : Byte) (s : State) :
    (∃ k i, Operation.run (.extendedEntry op2) s = rotateSelector k i s) ∨
      (∃ b i, Operation.run (.extendedEntry op2) s = testBit b i s) ∨
      (∃ b i, Operation.run (.extendedEntry op2) s = resetBit b i s) ∨
      ∃ b i, Operation.run (.extendedEntry op2) s = setBit b i s := by
  simp only [Operation.run, extendedEntry]
  split
  · exact .inl ⟨_, _, rfl⟩
  · exact .inr (.inl ⟨_, _, rfl⟩)
  · exact .inr (.inr (.inl ⟨_, _, rfl⟩))
  · exact .inr (.inr (.inr ⟨_, _, rfl⟩))

theorem frame_rotateSelector (k : RotKind) (i : Sel8) (s : State) :
    ∃ t, rotateSelector k i s = .next t ∧ Frame 2 s t :=
  ⟨_, rfl, ((frame_readSel i s).trans (frame_writeSel i _ _)).trans (frame_setFlags _ _ _ _ _)⟩

theorem frame_testBit (b : Fin 8) (i : Sel8) (s : State) : ∃ t, testBit b i s = .next t ∧ Frame 2 s t :=
  ⟨_, rfl, ((frame_readSel i s).trans (frame_setFlags _ _ _ _ _)).mono (by omega)⟩

theorem frame_resetBit (b : Fin 8) (i : Sel8) (s : State) : ∃ t, resetBit b i s = .next t ∧ Frame 2 s t :=
  ⟨_, rfl, (frame_readSel i s).trans (frame_writeSel i _ _)⟩

theorem frame_setBit (b : Fin 8) (i : Sel8) (s : State) : ∃ t, setBit b i s = .next t ∧ Frame 2 s t :=
  ⟨_, rfl, (frame_readSel i s).trans (frame_writeSel i _ _)⟩

/-- Every operation but four answers a next state within the frame of two bus transactions. -/
theorem Operation.run_frame (o : Operation) (s : State) (h : o.latching = false) :
    ∃ t, o.run s = .next t ∧ Frame 2 s t := by
  cases o with
  | copyByte dst src => exact ⟨_, rfl, (frame_readSel src s).trans (frame_writeSel dst _ _)⟩
  | loadImmediate dst n => exact ⟨_, rfl, (frame_writeSel dst n s).mono (by omega)⟩
  | loadA x => exact ⟨_, rfl, ((frame_busRead _ s).trans (frame_a _ _)).mono (by omega)⟩
  | storeA x => exact ⟨_, rfl, (frame_busWrite _ _ s).mono (by omega)⟩
  | storeAStepHL delta => exact ⟨_, rfl, ((frame_busWrite _ _ s).trans (frame_setHL _ _)).mono (by omega)⟩
  | loadAStepHL delta =>
    exact ⟨_, rfl, (((frame_busRead _ s).trans (frame_a _ _)).trans (frame_setHL _ _)).mono (by omega)⟩
  | loadPair p nn => exact ⟨_, rfl, (frame_setPair s p nn).mono (by omega)⟩
  | storeSP nn => exact ⟨_, rfl, (frame_busWrite _ _ s).trans (frame_busWrite _ _ _)⟩
  | copyHLToSP => exact ⟨_, rfl, (frame_sp s _).mono (by omega)⟩
  | offsetSPToHL e => exact ⟨_, rfl, ((frame_setHL s _).trans (frame_setFlags _ _ _ _ _)).mono (by omega)⟩
  | pushPair p => exact ⟨_, rfl, frame_push16 _ s⟩
  | popPair p => exact ⟨_, rfl, (frame_pop16 s).trans (frame_setStackPair _ p _)⟩
  | noOperation => exact ⟨_, rfl, (Frame.refl s).mono (by omega)⟩
  | enterHalt => cases h
  | writeIme v => cases h
  | undefinedOpcode op => cases h
  | extendedEntry op2 =>
    rcases extendedEntry_run op2 s with ⟨k, i, hr⟩ | ⟨b, i, hr⟩ | ⟨b, i, hr⟩ | ⟨b, i, hr⟩ <;> rw [hr]
    · exact frame_rotateSelector k i s
    · exact frame_testBit b i s
    · exact frame_resetBit b i s
    · exact frame_setBit b i s
  | aluSelector o src => exact ⟨_, rfl, ((frame_readSel src s).trans (frame_aluOnA o _ _)).mono (by omega)⟩
  | aluImmediate o n => exact ⟨_, rfl, (frame_aluOnA o n s).mono (by omega)⟩
  | incrementByte i =>
    exact ⟨_, rfl, ((frame_readSel i s).trans (frame_writeSel i _ _)).trans (frame_setFlags _ _ _ _ _)⟩
  | decrementByte i =>
    exact ⟨_, rfl, ((frame_readSel i s).trans (frame_writeSel i _ _)).trans (frame_setFlags _ _ _ _ _)⟩
  | decimalAdjust => exact ⟨_, rfl, ((frame_a s _).trans (frame_setFlags _ _ _ _ _)).mono (by omega)⟩
  | complementA => exact ⟨_, rfl, ((frame_a s _).trans (frame_setFlags _ _ _ _ _)).mono (by omega)⟩
  | setCarry => exact ⟨_, rfl, (frame_setFlags s _ _ _ _).mono (by omega)⟩
  | complementCarry => exact ⟨_, rfl, (frame_setFlags s _ _ _ _).mono (by omega)⟩
  | addPairToHL p => exact ⟨_, rfl, ((frame_setHL s _).trans (frame_setFlags _ _ _ _ _)).mono (by omega)⟩
  | addToPair p delta => exact ⟨_, rfl, (frame_setPair s p _).mono (by omega)⟩
  | addOffsetToSP e => exact ⟨_, rfl, ((frame_sp s _).trans (frame_setFlags _ _ _ _ _)).mono (by omega)⟩
  | rotateA k => exact ⟨_, rfl, ((frame_a s _).trans (frame_setFlags _ _ _ _ _)).mono (by omega)⟩
  | rotateSelector k i => exact frame_rotateSelector k i s
  | testBit b i => exact frame_testBit b i s
  | resetBit b i => exact frame_resetBit b i s
  | setBit b i => exact frame_setBit b i s
  | jumpTo x => exact ⟨_, rfl, (frame_pc s _).mono (by omega)⟩
  | jumpIf k nn =>
    refine ⟨_, rfl, ?_⟩
    split
    · exact (frame_pc s _).mono (by omega)
    · exact (Frame.refl s).mono (by omega)
  | jumpRelative e => exact ⟨_, rfl, (frame_pc s _).mono (by omega)⟩
  | jumpRelativeIf k e =>
    refine ⟨_, rfl, ?_⟩
    split
    · exact (frame_pc s _).mono (by omega)
    · exact (Frame.refl s).mono (by omega)
  | callTo nn => exact ⟨_, rfl, frame_pushPCAndJump nn s⟩
  | callIf k nn =>
    refine ⟨_, rfl, ?_⟩
    split
    · exact frame_pushPCAndJump nn s
    · exact (Frame.refl s).mono (by omega)
  | returnFromCall => exact ⟨_, rfl, frame_popPC s⟩
  | returnIf k =>
    refine ⟨_, rfl, ?_⟩
    split
    · exact frame_popPC s
    · exact (Frame.refl s).mono (by omega)
  | returnFromInterrupt => cases h
  | restart n => exact ⟨_, rfl, frame_pushPCAndJump _ s⟩

/-- Everything an operation can do outside its operands. -/
theorem Operation.run_cases (o : Operation) (s : State) :
    (o.latching = false ∧ ∃ t, o.run s = .next t ∧ Frame 2 s t) ∨
      (o = .enterHalt ∧ o.run s = .next { s with halted := true }) ∨
      (∃ v, o = .writeIme v ∧ o.run s = .next { s with ime := v }) ∨
      (∃ op, o = .undefinedOpcode op ∧ o.run s = .next (raiseDecodeFault op (s.pc - 1) s)) ∨
      (o = .returnFromInterrupt ∧ o.run s = .next { popPC s with ime := true }) := by
  cases hl : o.latching with
  | false => exact .inl ⟨rfl, o.run_frame s hl⟩
  | true =>
    cases o with
    | enterHalt => exact .inr (.inl ⟨rfl, rfl⟩)
    | writeIme v => exact .inr (.inr (.inl ⟨v, rfl, rfl⟩))
    | undefinedOpcode op => exact .inr (.inr (.inr (.inl ⟨op, rfl, rfl⟩)))
    | returnFromInterrupt => exact .inr (.inr (.inr (.inr ⟨rfl, rfl⟩)))
    | _ => cases hl

end Sys2Proof.Machine
end

