-- ==== Sys2Proof/Laws/Selectors.lean ====
section
/-! SUPPORT. What an instruction named by its selectors does: its shared operation, one lemma per selector form of the two opcode
tables, so that a proof about a whole family splits on no constructor. -/

namespace Sys2Proof.Machine

theorem exec_ld8_reg (d : Reg8) (r : Sel8) (s : State) :
    exec (.ld8 (.reg d) r) s = copyByte (.reg d) r s := by
  cases d <;> rcases r with ⟨⟨⟩⟩ | _ <;> rfl

theorem exec_ld8_atHL (r : Reg8) (s : State) :
    exec (.ld8 .atHL (.reg r)) s = copyByte .atHL (.reg r) s := by
  cases r <;> rfl

theorem exec_ld8n (d : Sel8) (n : Byte) (s : State) :
    exec (.ld8n d n) s = loadImmediate d n s := by
  rcases d with ⟨⟨⟩⟩ | _ <;> rfl

theorem exec_inc8 (d : Sel8) (s : State) :
    exec (.inc8 d) s = incrementByte d s := by
  rcases d with ⟨⟨⟩⟩ | _ <;> rfl

theorem exec_dec8 (d : Sel8) (s : State) :
    exec (.dec8 d) s = decrementByte d s := by
  rcases d with ⟨⟨⟩⟩ | _ <;> rfl

theorem exec_alu (o : AluOp) (r : Sel8) (s : State) :
    exec (.alu o r) s = aluSelector o r s := by
  cases o <;> rcases r with ⟨⟨⟩⟩ | _ <;> rfl

theorem exec_aluN (o : AluOp) (n : Byte) (s : State) :
    exec (.aluN o n) s = aluImmediate o n s := by
  cases o <;> rfl

theorem exec_ldPair (p : Pair) (nn : Word) (s : State) :
    exec (.ldPair p nn) s = loadPair p nn s := by
  cases p <;> rfl

theorem exec_addHL (p : Pair) (s : State) :
    exec (.addHL p) s = addPairToHL p s := by
  cases p <;> rfl

theorem exec_incPair (p : Pair) (s : State) :
    exec (.incPair p) s = addToPair p 1 s := by
  cases p <;> rfl

theorem exec_decPair (p : Pair) (s : State) :
    exec (.decPair p) s = addToPair p (-1) s := by
  cases p <;> rfl

theorem exec_push (p : StackPair) (s : State) :
    exec (.push p) s = pushPair p s := by
  cases p <;> rfl

theorem exec_pop (p : StackPair) (s : State) :
    exec (.pop p) s = popPair p s := by
  cases p <;> rfl

theorem exec_jrIf (k : Cond) (e : Byte) (s : State) :
    exec (.jrIf k e) s = jumpRelativeIf k e s := by
  cases k <;> rfl

theorem exec_jpIf (k : Cond) (nn : Word) (s : State) :
    exec (.jpIf k nn) s = jumpIf k nn s := by
  cases k <;> rfl

theorem exec_callIf (k : Cond) (nn : Word) (s : State) :
    exec (.callIf k nn) s = Machine.callIf k nn s := by
  cases k <;> rfl

theorem exec_retIf (k : Cond) (s : State) :
    exec (.retIf k) s = returnIf k s := by
  cases k <;> rfl

theorem exec_rst (n : Fin 8) (s : State) :
    exec (.rst n) s = restart n s := by
  match n with | 0 | 1 | 2 | 3 | 4 | 5 | 6 | 7 => rfl

theorem exec_rotate (k : RotKind) (r : Sel8) (s : State) :
    exec (.rotate k r) s = rotateSelector k r s := by
  cases k <;> rcases r with ⟨⟨⟩⟩ | _ <;> rfl

theorem exec_bit (b : Fin 8) (r : Sel8) (s : State) :
    exec (.bit b r) s = testBit b r s := by
  match b with
  | 0 | 1 | 2 | 3 | 4 | 5 | 6 | 7 => rcases r with ⟨⟨⟩⟩ | _ <;> rfl

theorem exec_res (b : Fin 8) (r : Sel8) (s : State) :
    exec (.res b r) s = resetBit b r s := by
  match b with
  | 0 | 1 | 2 | 3 | 4 | 5 | 6 | 7 => rcases r with ⟨⟨⟩⟩ | _ <;> rfl

theorem exec_set (b : Fin 8) (r : Sel8) (s : State) :
    exec (.set b r) s = setBit b r s := by
  match b with
  | 0 | 1 | 2 | 3 | 4 | 5 | 6 | 7 => rcases r with ⟨⟨⟩⟩ | _ <;> rfl

end Sys2Proof.Machine
end

