-- ==== Sys2Proof/Laws/Step.lean ====
section
/-! SUPPORT. What a step can do, said once: it is stuck, or idles, or runs the operation of one decoded instruction. A proof about
`step` cites `step_cases` and never unfolds `step`. -/

namespace Sys2Proof.Machine

theorem nextHostChange_none {s : State} (h : s.hostWrites = []) : s.nextHostChange = [] := by
  simp [State.nextHostChange, h]

theorem nextHostChange_some {s : State} {cells : List (Word × Byte)} {rest : List (List (Word × Byte))}
    (h : s.hostWrites = cells :: rest) : s.nextHostChange = cells := by
  simp [State.nextHostChange, h]

@[simp] theorem beginStep_bus (s : State) : (beginStep s).bus = s.bus.hostChange s.nextHostChange := rfl
@[simp] theorem beginStep_busLog (s : State) : (beginStep s).busLog = [] := rfl
@[simp] theorem beginStep_hostWrites (s : State) : (beginStep s).hostWrites = s.hostWrites.tail := rfl
@[simp] theorem beginStep_cycles (s : State) : (beginStep s).cycles = s.cycles := rfl
@[simp] theorem beginStep_pc (s : State) : (beginStep s).pc = s.pc := rfl
@[simp] theorem beginStep_ime (s : State) : (beginStep s).ime = s.ime := rfl
@[simp] theorem beginStep_halted (s : State) : (beginStep s).halted = s.halted := rfl
@[simp] theorem beginStep_faulted (s : State) : (beginStep s).faulted = s.faulted := rfl
@[simp] theorem beginStep_f (s : State) : (beginStep s).f = s.f := rfl

/-- Where the host changes nothing before a step, the bus it begins on is the one it finds (20_memory.md R69). -/
theorem beginStep_quiet {s : State} (h : s.hostWrites = []) : beginStep s = { s with busLog := [] } := by
  simp [beginStep, nextHostChange_none h, h]

/-- A faulted core has no next state (10_state.md R40). -/
theorem step_faulted {s : State} (h : s.faulted = true) : step s = .fault .stuckAfterDecodeFault := by
  simp [step, h]

/-- A halted core idles (42_dispatch_system.md R151). -/
theorem step_halted {s : State} (hf : s.faulted = false) (hh : s.halted = true) :
    step s = .next { beginStep s with result := .ok 4 } := by
  simp only [step, hf, hh, haltedStep, Config.haltedCycles]
  rfl

/-- The state in which an instruction of `k` bytes runs: PC past it, its bytes read, in order. -/
def State.fetched (s : State) (k : Nat) : State :=
  { s.transact (s.fetchReads k) with pc := s.pc + BitVec.ofNat 16 k }

/-- A running core decodes an instruction at PC and runs its operation; nothing else can happen (R150, R161). -/
theorem step_running {s b : State} (h : s.Running) (hb : b = beginStep s) :
    ∃ i : Instr, decode (b.bytesAtPC.take (instrLength (b.byteAt b.pc))) = .ok (i, []) ∧
      step s =
        mapNext (recordCycles (b.bytesAtPC.take (instrLength (b.byteAt b.pc))))
          ((instrOperation i).run (b.fetched (instrLength (b.byteAt b.pc)))) := by
  obtain ⟨i, hi, -⟩ := decode_bytesAtPC b
  refine ⟨i, hi, ?_⟩
  simp only [step, h.1, h.2, ← hb, fetchInstr_eq, hi, exec_eq_run]
  rfl

/-- Everything a step can do, after what the host does (`b`). -/
theorem step_cases (s : State) {b : State} (hb : b = beginStep s) :
    (s.faulted = true ∧ step s = .fault .stuckAfterDecodeFault) ∨
    (s.faulted = false ∧ s.halted = true ∧ step s = .next { b with result := .ok 4 }) ∨
    (s.Running ∧
      ∃ i : Instr, decode (b.bytesAtPC.take (instrLength (b.byteAt b.pc))) = .ok (i, []) ∧
        step s =
          mapNext (recordCycles (b.bytesAtPC.take (instrLength (b.byteAt b.pc))))
            ((instrOperation i).run (b.fetched (instrLength (b.byteAt b.pc))))) := by
  by_cases hf : s.faulted = true
  · exact .inl ⟨hf, step_faulted hf⟩
  · replace hf := Bool.eq_false_iff.mpr hf
    by_cases hh : s.halted = true
    · exact .inr (.inl ⟨hf, hh, hb ▸ step_halted hf hh⟩)
    · exact .inr (.inr ⟨⟨Bool.eq_false_iff.mpr hh, hf⟩, step_running ⟨Bool.eq_false_iff.mpr hh, hf⟩ hb⟩)

/-- Returning a cost changes the output field alone. -/
theorem recordCycles_eq (bytes : List Byte) (s : State) :
    recordCycles bytes s = { s with result := (recordCycles bytes s).result } := by
  unfold recordCycles
  split <;> rfl

@[simp] theorem recordCycles_f (bytes : List Byte) (s : State) : (recordCycles bytes s).f = s.f := by
  rw [recordCycles_eq]

@[simp] theorem recordCycles_pc (bytes : List Byte) (s : State) : (recordCycles bytes s).pc = s.pc := by
  rw [recordCycles_eq]

@[simp] theorem recordCycles_halted (bytes : List Byte) (s : State) : (recordCycles bytes s).halted = s.halted := by
  rw [recordCycles_eq]

@[simp] theorem recordCycles_ime (bytes : List Byte) (s : State) : (recordCycles bytes s).ime = s.ime := by
  rw [recordCycles_eq]

@[simp] theorem recordCycles_faulted (bytes : List Byte) (s : State) : (recordCycles bytes s).faulted = s.faulted := by
  rw [recordCycles_eq]

@[simp] theorem recordCycles_bus (bytes : List Byte) (s : State) : (recordCycles bytes s).bus = s.bus := by
  rw [recordCycles_eq]

@[simp] theorem recordCycles_cycles (bytes : List Byte) (s : State) : (recordCycles bytes s).cycles = s.cycles := by
  rw [recordCycles_eq]

@[simp] theorem recordCycles_hostWrites (bytes : List Byte) (s : State) : (recordCycles bytes s).hostWrites = s.hostWrites := by
  rw [recordCycles_eq]

@[simp] theorem recordCycles_busLog (bytes : List Byte) (s : State) : (recordCycles bytes s).busLog = s.busLog := by
  rw [recordCycles_eq]

end Sys2Proof.Machine
end

