-- ==== Sys2Proof/Tests/Slice0.lean ====
section
/-! SUPPORT. The model's own tests: ill-formed terms that WellFormed refuses, every instruction's word decoded, one-step
tests on rows of spec/95_test_vectors.md, and for every obligation with hypotheses a state that meets them. -/

namespace Sys2Proof.Tests

open Sys2Proof.Machine

set_option maxRecDepth 10000

/-! WellFormed refuses ill-formed terms -/

theorem test_undefined_refuses_defined_byte : wellFormed (.undefined 0x00) = false := by decide
theorem test_undefined_refuses_escape_byte : wellFormed (.undefined 0xCB) = false := by decide
theorem test_prefixCb_is_not_well_formed : wellFormed (.prefixCb 0x00) = false := by decide
theorem test_undefined_accepts_the_eleven : undefinedOpcodes.all (fun op => wellFormed (.undefined op)) = true := by decide
theorem test_call_is_well_formed : wellFormed (.call_nn 0xFFFF) = true := by decide

/-! Decoding, every row of spec/opcode_table.json: the word is the row's "encoding" column, bit by bit, then the immediate
bytes 0x34, or 0x34 0x12 for 0x1234 -/

/-- Each list of bytes decodes, with nothing left over, to the instruction beside it. -/
def decodesTo (rows : List (List (List Byte × Instr))) : Bool :=
  rows.all fun eight => eight.all fun x =>
    match decode x.1 with
    | .ok (i, []) => decide (i = x.2)
    | _ => false

theorem test_decode_primary_00 :
    decodesTo
      [[([0b00000000], .nop), ([0b00000001, 0x34, 0x12], .ld_BC_nn 0x1234), ([0b00000010], .ld_atBC_A),
        ([0b00000011], .inc_BC), ([0b00000100], .inc_B), ([0b00000101], .dec_B),
        ([0b00000110, 0x34], .ld_B_n 0x34), ([0b00000111], .rlca)],
      [([0b00001000, 0x34, 0x12], .ld_atnn_SP 0x1234), ([0b00001001], .add_HL_BC), ([0b00001010], .ld_A_atBC),
        ([0b00001011], .dec_BC), ([0b00001100], .inc_C), ([0b00001101], .dec_C),
        ([0b00001110, 0x34], .ld_C_n 0x34), ([0b00001111], .rrca)],
      [([0b00010000], .stop), ([0b00010001, 0x34, 0x12], .ld_DE_nn 0x1234), ([0b00010010], .ld_atDE_A),
        ([0b00010011], .inc_DE), ([0b00010100], .inc_D), ([0b00010101], .dec_D),
        ([0b00010110, 0x34], .ld_D_n 0x34), ([0b00010111], .rla)],
      [([0b00011000, 0x34], .jr_e 0x34), ([0b00011001], .add_HL_DE), ([0b00011010], .ld_A_atDE),
        ([0b00011011], .dec_DE), ([0b00011100], .inc_E), ([0b00011101], .dec_E),
        ([0b00011110, 0x34], .ld_E_n 0x34), ([0b00011111], .rra)]] = true := by decide

theorem test_decode_primary_20 :
    decodesTo
      [[([0b00100000, 0x34], .jr_NZ_e 0x34), ([0b00100001, 0x34, 0x12], .ld_HL_nn 0x1234), ([0b00100010], .ld_atHLi_A),
        ([0b00100011], .inc_HL), ([0b00100100], .inc_H), ([0b00100101], .dec_H),
        ([0b00100110, 0x34], .ld_H_n 0x34), ([0b00100111], .daa)],
      [([0b00101000, 0x34], .jr_Z_e 0x34), ([0b00101001], .add_HL_HL), ([0b00101010], .ld_A_atHLi),
        ([0b00101011], .dec_HL), ([0b00101100], .inc_L), ([0b00101101], .dec_L),
        ([0b00101110, 0x34], .ld_L_n 0x34), ([0b00101111], .cpl)],
      [([0b00110000, 0x34], .jr_NC_e 0x34), ([0b00110001, 0x34, 0x12], .ld_SP_nn 0x1234), ([0b00110010], .ld_atHLd_A),
        ([0b00110011], .inc_SP), ([0b00110100], .inc_atHL), ([0b00110101], .dec_atHL),
        ([0b00110110, 0x34], .ld_atHL_n 0x34), ([0b00110111], .scf)],
      [([0b00111000, 0x34], .jr_C_e 0x34), ([0b00111001], .add_HL_SP), ([0b00111010], .ld_A_atHLd),
        ([0b00111011], .dec_SP), ([0b00111100], .inc_A), ([0b00111101], .dec_A),
        ([0b00111110, 0x34], .ld_A_n 0x34), ([0b00111111], .ccf)]] = true := by decide

theorem test_decode_primary_40 :
    decodesTo
      [[([0b01000000], .ld_B_B), ([0b01000001], .ld_B_C), ([0b01000010], .ld_B_D),
        ([0b01000011], .ld_B_E), ([0b01000100], .ld_B_H), ([0b01000101], .ld_B_L),
        ([0b01000110], .ld_B_atHL), ([0b01000111], .ld_B_A)],
      [([0b01001000], .ld_C_B), ([0b01001001], .ld_C_C), ([0b01001010], .ld_C_D),
        ([0b01001011], .ld_C_E), ([0b01001100], .ld_C_H), ([0b01001101], .ld_C_L),
        ([0b01001110], .ld_C_atHL), ([0b01001111], .ld_C_A)],
      [([0b01010000], .ld_D_B), ([0b01010001], .ld_D_C), ([0b01010010], .ld_D_D),
        ([0b01010011], .ld_D_E), ([0b01010100], .ld_D_H), ([0b01010101], .ld_D_L),
        ([0b01010110], .ld_D_atHL), ([0b01010111], .ld_D_A)],
      [([0b01011000], .ld_E_B), ([0b01011001], .ld_E_C), ([0b01011010], .ld_E_D),
        ([0b01011011], .ld_E_E), ([0b01011100], .ld_E_H), ([0b01011101], .ld_E_L),
        ([0b01011110], .ld_E_atHL), ([0b01011111], .ld_E_A)]] = true := by decide

theorem test_decode_primary_60 :
    decodesTo
      [[([0b01100000], .ld_H_B), ([0b01100001], .ld_H_C), ([0b01100010], .ld_H_D),
        ([0b01100011], .ld_H_E), ([0b01100100], .ld_H_H), ([0b01100101], .ld_H_L),
        ([0b01100110], .ld_H_atHL), ([0b01100111], .ld_H_A)],
      [([0b01101000], .ld_L_B), ([0b01101001], .ld_L_C), ([0b01101010], .ld_L_D),
        ([0b01101011], .ld_L_E), ([0b01101100], .ld_L_H), ([0b01101101], .ld_L_L),
        ([0b01101110], .ld_L_atHL), ([0b01101111], .ld_L_A)],
      [([0b01110000], .ld_atHL_B), ([0b01110001], .ld_atHL_C), ([0b01110010], .ld_atHL_D),
        ([0b01110011], .ld_atHL_E), ([0b01110100], .ld_atHL_H), ([0b01110101], .ld_atHL_L),
        ([0b01110110], .halt), ([0b01110111], .ld_atHL_A)],
      [([0b01111000], .ld_A_B), ([0b01111001], .ld_A_C), ([0b01111010], .ld_A_D),
        ([0b01111011], .ld_A_E), ([0b01111100], .ld_A_H), ([0b01111101], .ld_A_L),
        ([0b01111110], .ld_A_atHL), ([0b01111111], .ld_A_A)]] = true := by decide

theorem test_decode_primary_80 :
    decodesTo
      [[([0b10000000], .add_A_B), ([0b10000001], .add_A_C), ([0b10000010], .add_A_D),
        ([0b10000011], .add_A_E), ([0b10000100], .add_A_H), ([0b10000101], .add_A_L),
        ([0b10000110], .add_A_atHL), ([0b10000111], .add_A_A)],
      [([0b10001000], .adc_A_B), ([0b10001001], .adc_A_C), ([0b10001010], .adc_A_D),
        ([0b10001011], .adc_A_E), ([0b10001100], .adc_A_H), ([0b10001101], .adc_A_L),
        ([0b10001110], .adc_A_atHL), ([0b10001111], .adc_A_A)],
      [([0b10010000], .sub_B), ([0b10010001], .sub_C), ([0b10010010], .sub_D),
        ([0b10010011], .sub_E), ([0b10010100], .sub_H), ([0b10010101], .sub_L),
        ([0b10010110], .sub_atHL), ([0b10010111], .sub_A)],
      [([0b10011000], .sbc_A_B), ([0b10011001], .sbc_A_C), ([0b10011010], .sbc_A_D),
        ([0b10011011], .sbc_A_E), ([0b10011100], .sbc_A_H), ([0b10011101], .sbc_A_L),
        ([0b10011110], .sbc_A_atHL), ([0b10011111], .sbc_A_A)]] = true := by decide

theorem test_decode_primary_A0 :
    decodesTo
      [[([0b10100000], .and_B), ([0b10100001], .and_C), ([0b10100010], .and_D),
        ([0b10100011], .and_E), ([0b10100100], .and_H), ([0b10100101], .and_L),
        ([0b10100110], .and_atHL), ([0b10100111], .and_A)],
      [([0b10101000], .xor_B), ([0b10101001], .xor_C), ([0b10101010], .xor_D),
        ([0b10101011], .xor_E), ([0b10101100], .xor_H), ([0b10101101], .xor_L),
        ([0b10101110], .xor_atHL), ([0b10101111], .xor_A)],
      [([0b10110000], .or_B), ([0b10110001], .or_C), ([0b10110010], .or_D),
        ([0b10110011], .or_E), ([0b10110100], .or_H), ([0b10110101], .or_L),
        ([0b10110110], .or_atHL), ([0b10110111], .or_A)],
      [([0b10111000], .cp_B), ([0b10111001], .cp_C), ([0b10111010], .cp_D),
        ([0b10111011], .cp_E), ([0b10111100], .cp_H), ([0b10111101], .cp_L),
        ([0b10111110], .cp_atHL), ([0b10111111], .cp_A)]] = true := by decide

theorem test_decode_primary_C0 :
    decodesTo
      [[([0b11000000], .ret_NZ), ([0b11000001], .pop_BC), ([0b11000010, 0x34, 0x12], .jp_NZ_nn 0x1234),
        ([0b11000011, 0x34, 0x12], .jp_nn 0x1234), ([0b11000100, 0x34, 0x12], .call_NZ_nn 0x1234), ([0b11000101], .push_BC),
        ([0b11000110, 0x34], .add_A_n 0x34), ([0b11000111], .rst_00)],
      [([0b11001000], .ret_Z), ([0b11001001], .ret), ([0b11001010, 0x34, 0x12], .jp_Z_nn 0x1234),
        ([0b11001100, 0x34, 0x12], .call_Z_nn 0x1234), ([0b11001101, 0x34, 0x12], .call_nn 0x1234), ([0b11001110, 0x34], .adc_A_n 0x34),
        ([0b11001111], .rst_08)],
      [([0b11010000], .ret_NC), ([0b11010001], .pop_DE), ([0b11010010, 0x34, 0x12], .jp_NC_nn 0x1234),
        ([0b11010011], .undefined 0b11010011), ([0b11010100, 0x34, 0x12], .call_NC_nn 0x1234), ([0b11010101], .push_DE),
        ([0b11010110, 0x34], .sub_n 0x34), ([0b11010111], .rst_10)],
      [([0b11011000], .ret_C), ([0b11011001], .reti), ([0b11011010, 0x34, 0x12], .jp_C_nn 0x1234),
        ([0b11011011], .undefined 0b11011011), ([0b11011100, 0x34, 0x12], .call_C_nn 0x1234), ([0b11011101], .undefined 0b11011101),
        ([0b11011110, 0x34], .sbc_A_n 0x34), ([0b11011111], .rst_18)]] = true := by decide

theorem test_decode_primary_E0 :
    decodesTo
      [[([0b11100000, 0x34], .ldh_atn_A 0x34), ([0b11100001], .pop_HL), ([0b11100010], .ldh_atC_A),
        ([0b11100011], .undefined 0b11100011), ([0b11100100], .undefined 0b11100100), ([0b11100101], .push_HL),
        ([0b11100110, 0x34], .and_n 0x34), ([0b11100111], .rst_20)],
      [([0b11101000, 0x34], .add_SP_e 0x34), ([0b11101001], .jp_HL), ([0b11101010, 0x34, 0x12], .ld_atnn_A 0x1234),
        ([0b11101011], .undefined 0b11101011), ([0b11101100], .undefined 0b11101100), ([0b11101101], .undefined 0b11101101),
        ([0b11101110, 0x34], .xor_n 0x34), ([0b11101111], .rst_28)],
      [([0b11110000, 0x34], .ldh_A_atn 0x34), ([0b11110001], .pop_AF), ([0b11110010], .ldh_A_atC),
        ([0b11110011], .di), ([0b11110100], .undefined 0b11110100), ([0b11110101], .push_AF),
        ([0b11110110, 0x34], .or_n 0x34), ([0b11110111], .rst_30)],
      [([0b11111000, 0x34], .ld_HL_SPe 0x34), ([0b11111001], .ld_SP_HL), ([0b11111010, 0x34, 0x12], .ld_A_atnn 0x1234),
        ([0b11111011], .ei), ([0b11111100], .undefined 0b11111100), ([0b11111101], .undefined 0b11111101),
        ([0b11111110, 0x34], .cp_n 0x34), ([0b11111111], .rst_38)]] = true := by decide

theorem test_decode_extended_00 :
    decodesTo
      [[([0b11001011, 0b00000000], .rlc_B), ([0b11001011, 0b00000001], .rlc_C), ([0b11001011, 0b00000010], .rlc_D),
        ([0b11001011, 0b00000011], .rlc_E), ([0b11001011, 0b00000100], .rlc_H), ([0b11001011, 0b00000101], .rlc_L),
        ([0b11001011, 0b00000110], .rlc_atHL), ([0b11001011, 0b00000111], .rlc_A)],
      [([0b11001011, 0b00001000], .rrc_B), ([0b11001011, 0b00001001], .rrc_C), ([0b11001011, 0b00001010], .rrc_D),
        ([0b11001011, 0b00001011], .rrc_E), ([0b11001011, 0b00001100], .rrc_H), ([0b11001011, 0b00001101], .rrc_L),
        ([0b11001011, 0b00001110], .rrc_atHL), ([0b11001011, 0b00001111], .rrc_A)],
      [([0b11001011, 0b00010000], .rl_B), ([0b11001011, 0b00010001], .rl_C), ([0b11001011, 0b00010010], .rl_D),
        ([0b11001011, 0b00010011], .rl_E), ([0b11001011, 0b00010100], .rl_H), ([0b11001011, 0b00010101], .rl_L),
        ([0b11001011, 0b00010110], .rl_atHL), ([0b11001011, 0b00010111], .rl_A)],
      [([0b11001011, 0b00011000], .rr_B), ([0b11001011, 0b00011001], .rr_C), ([0b11001011, 0b00011010], .rr_D),
        ([0b11001011, 0b00011011], .rr_E), ([0b11001011, 0b00011100], .rr_H), ([0b11001011, 0b00011101], .rr_L),
        ([0b11001011, 0b00011110], .rr_atHL), ([0b11001011, 0b00011111], .rr_A)]] = true := by decide

theorem test_decode_extended_20 :
    decodesTo
      [[([0b11001011, 0b00100000], .sla_B), ([0b11001011, 0b00100001], .sla_C), ([0b11001011, 0b00100010], .sla_D),
        ([0b11001011, 0b00100011], .sla_E), ([0b11001011, 0b00100100], .sla_H), ([0b11001011, 0b00100101], .sla_L),
        ([0b11001011, 0b00100110], .sla_atHL), ([0b11001011, 0b00100111], .sla_A)],
      [([0b11001011, 0b00101000], .sra_B), ([0b11001011, 0b00101001], .sra_C), ([0b11001011, 0b00101010], .sra_D),
        ([0b11001011, 0b00101011], .sra_E), ([0b11001011, 0b00101100], .sra_H), ([0b11001011, 0b00101101], .sra_L),
        ([0b11001011, 0b00101110], .sra_atHL), ([0b11001011, 0b00101111], .sra_A)],
      [([0b11001011, 0b00110000], .swap_B), ([0b11001011, 0b00110001], .swap_C), ([0b11001011, 0b00110010], .swap_D),
        ([0b11001011, 0b00110011], .swap_E), ([0b11001011, 0b00110100], .swap_H), ([0b11001011, 0b00110101], .swap_L),
        ([0b11001011, 0b00110110], .swap_atHL), ([0b11001011, 0b00110111], .swap_A)],
      [([0b11001011, 0b00111000], .srl_B), ([0b11001011, 0b00111001], .srl_C), ([0b11001011, 0b00111010], .srl_D),
        ([0b11001011, 0b00111011], .srl_E), ([0b11001011, 0b00111100], .srl_H), ([0b11001011, 0b00111101], .srl_L),
        ([0b11001011, 0b00111110], .srl_atHL), ([0b11001011, 0b00111111], .srl_A)]] = true := by decide

theorem test_decode_extended_40 :
    decodesTo
      [[([0b11001011, 0b01000000], .bit_0_B), ([0b11001011, 0b01000001], .bit_0_C), ([0b11001011, 0b01000010], .bit_0_D),
        ([0b11001011, 0b01000011], .bit_0_E), ([0b11001011, 0b01000100], .bit_0_H), ([0b11001011, 0b01000101], .bit_0_L),
        ([0b11001011, 0b01000110], .bit_0_atHL), ([0b11001011, 0b01000111], .bit_0_A)],
      [([0b11001011, 0b01001000], .bit_1_B), ([0b11001011, 0b01001001], .bit_1_C), ([0b11001011, 0b01001010], .bit_1_D),
        ([0b11001011, 0b01001011], .bit_1_E), ([0b11001011, 0b01001100], .bit_1_H), ([0b11001011, 0b01001101], .bit_1_L),
        ([0b11001011, 0b01001110], .bit_1_atHL), ([0b11001011, 0b01001111], .bit_1_A)],
      [([0b11001011, 0b01010000], .bit_2_B), ([0b11001011, 0b01010001], .bit_2_C), ([0b11001011, 0b01010010], .bit_2_D),
        ([0b11001011, 0b01010011], .bit_2_E), ([0b11001011, 0b01010100], .bit_2_H), ([0b11001011, 0b01010101], .bit_2_L),
        ([0b11001011, 0b01010110], .bit_2_atHL), ([0b11001011, 0b01010111], .bit_2_A)],
      [([0b11001011, 0b01011000], .bit_3_B), ([0b11001011, 0b01011001], .bit_3_C), ([0b11001011, 0b01011010], .bit_3_D),
        ([0b11001011, 0b01011011], .bit_3_E), ([0b11001011, 0b01011100], .bit_3_H), ([0b11001011, 0b01011101], .bit_3_L),
        ([0b11001011, 0b01011110], .bit_3_atHL), ([0b11001011, 0b01011111], .bit_3_A)]] = true := by decide

theorem test_decode_extended_60 :
    decodesTo
      [[([0b11001011, 0b01100000], .bit_4_B), ([0b11001011, 0b01100001], .bit_4_C), ([0b11001011, 0b01100010], .bit_4_D),
        ([0b11001011, 0b01100011], .bit_4_E), ([0b11001011, 0b01100100], .bit_4_H), ([0b11001011, 0b01100101], .bit_4_L),
        ([0b11001011, 0b01100110], .bit_4_atHL), ([0b11001011, 0b01100111], .bit_4_A)],
      [([0b11001011, 0b01101000], .bit_5_B), ([0b11001011, 0b01101001], .bit_5_C), ([0b11001011, 0b01101010], .bit_5_D),
        ([0b11001011, 0b01101011], .bit_5_E), ([0b11001011, 0b01101100], .bit_5_H), ([0b11001011, 0b01101101], .bit_5_L),
        ([0b11001011, 0b01101110], .bit_5_atHL), ([0b11001011, 0b01101111], .bit_5_A)],
      [([0b11001011, 0b01110000], .bit_6_B), ([0b11001011, 0b01110001], .bit_6_C), ([0b11001011, 0b01110010], .bit_6_D),
        ([0b11001011, 0b01110011], .bit_6_E), ([0b11001011, 0b01110100], .bit_6_H), ([0b11001011, 0b01110101], .bit_6_L),
        ([0b11001011, 0b01110110], .bit_6_atHL), ([0b11001011, 0b01110111], .bit_6_A)],
      [([0b11001011, 0b01111000], .bit_7_B), ([0b11001011, 0b01111001], .bit_7_C), ([0b11001011, 0b01111010], .bit_7_D),
        ([0b11001011, 0b01111011], .bit_7_E), ([0b11001011, 0b01111100], .bit_7_H), ([0b11001011, 0b01111101], .bit_7_L),
        ([0b11001011, 0b01111110], .bit_7_atHL), ([0b11001011, 0b01111111], .bit_7_A)]] = true := by decide

theorem test_decode_extended_80 :
    decodesTo
      [[([0b11001011, 0b10000000], .res_0_B), ([0b11001011, 0b10000001], .res_0_C), ([0b11001011, 0b10000010], .res_0_D),
        ([0b11001011, 0b10000011], .res_0_E), ([0b11001011, 0b10000100], .res_0_H), ([0b11001011, 0b10000101], .res_0_L),
        ([0b11001011, 0b10000110], .res_0_atHL), ([0b11001011, 0b10000111], .res_0_A)],
      [([0b11001011, 0b10001000], .res_1_B), ([0b11001011, 0b10001001], .res_1_C), ([0b11001011, 0b10001010], .res_1_D),
        ([0b11001011, 0b10001011], .res_1_E), ([0b11001011, 0b10001100], .res_1_H), ([0b11001011, 0b10001101], .res_1_L),
        ([0b11001011, 0b10001110], .res_1_atHL), ([0b11001011, 0b10001111], .res_1_A)],
      [([0b11001011, 0b10010000], .res_2_B), ([0b11001011, 0b10010001], .res_2_C), ([0b11001011, 0b10010010], .res_2_D),
        ([0b11001011, 0b10010011], .res_2_E), ([0b11001011, 0b10010100], .res_2_H), ([0b11001011, 0b10010101], .res_2_L),
        ([0b11001011, 0b10010110], .res_2_atHL), ([0b11001011, 0b10010111], .res_2_A)],
      [([0b11001011, 0b10011000], .res_3_B), ([0b11001011, 0b10011001], .res_3_C), ([0b11001011, 0b10011010], .res_3_D),
        ([0b11001011, 0b10011011], .res_3_E), ([0b11001011, 0b10011100], .res_3_H), ([0b11001011, 0b10011101], .res_3_L),
        ([0b11001011, 0b10011110], .res_3_atHL), ([0b11001011, 0b10011111], .res_3_A)]] = true := by decide

theorem test_decode_extended_A0 :
    decodesTo
      [[([0b11001011, 0b10100000], .res_4_B), ([0b11001011, 0b10100001], .res_4_C), ([0b11001011, 0b10100010], .res_4_D),
        ([0b11001011, 0b10100011], .res_4_E), ([0b11001011, 0b10100100], .res_4_H), ([0b11001011, 0b10100101], .res_4_L),
        ([0b11001011, 0b10100110], .res_4_atHL), ([0b11001011, 0b10100111], .res_4_A)],
      [([0b11001011, 0b10101000], .res_5_B), ([0b11001011, 0b10101001], .res_5_C), ([0b11001011, 0b10101010], .res_5_D),
        ([0b11001011, 0b10101011], .res_5_E), ([0b11001011, 0b10101100], .res_5_H), ([0b11001011, 0b10101101], .res_5_L),
        ([0b11001011, 0b10101110], .res_5_atHL), ([0b11001011, 0b10101111], .res_5_A)],
      [([0b11001011, 0b10110000], .res_6_B), ([0b11001011, 0b10110001], .res_6_C), ([0b11001011, 0b10110010], .res_6_D),
        ([0b11001011, 0b10110011], .res_6_E), ([0b11001011, 0b10110100], .res_6_H), ([0b11001011, 0b10110101], .res_6_L),
        ([0b11001011, 0b10110110], .res_6_atHL), ([0b11001011, 0b10110111], .res_6_A)],
      [([0b11001011, 0b10111000], .res_7_B), ([0b11001011, 0b10111001], .res_7_C), ([0b11001011, 0b10111010], .res_7_D),
        ([0b11001011, 0b10111011], .res_7_E), ([0b11001011, 0b10111100], .res_7_H), ([0b11001011, 0b10111101], .res_7_L),
        ([0b11001011, 0b10111110], .res_7_atHL), ([0b11001011, 0b10111111], .res_7_A)]] = true := by decide

theorem test_decode_extended_C0 :
    decodesTo
      [[([0b11001011, 0b11000000], .set_0_B), ([0b11001011, 0b11000001], .set_0_C), ([0b11001011, 0b11000010], .set_0_D),
        ([0b11001011, 0b11000011], .set_0_E), ([0b11001011, 0b11000100], .set_0_H), ([0b11001011, 0b11000101], .set_0_L),
        ([0b11001011, 0b11000110], .set_0_atHL), ([0b11001011, 0b11000111], .set_0_A)],
      [([0b11001011, 0b11001000], .set_1_B), ([0b11001011, 0b11001001], .set_1_C), ([0b11001011, 0b11001010], .set_1_D),
        ([0b11001011, 0b11001011], .set_1_E), ([0b11001011, 0b11001100], .set_1_H), ([0b11001011, 0b11001101], .set_1_L),
        ([0b11001011, 0b11001110], .set_1_atHL), ([0b11001011, 0b11001111], .set_1_A)],
      [([0b11001011, 0b11010000], .set_2_B), ([0b11001011, 0b11010001], .set_2_C), ([0b11001011, 0b11010010], .set_2_D),
        ([0b11001011, 0b11010011], .set_2_E), ([0b11001011, 0b11010100], .set_2_H), ([0b11001011, 0b11010101], .set_2_L),
        ([0b11001011, 0b11010110], .set_2_atHL), ([0b11001011, 0b11010111], .set_2_A)],
      [([0b11001011, 0b11011000], .set_3_B), ([0b11001011, 0b11011001], .set_3_C), ([0b11001011, 0b11011010], .set_3_D),
        ([0b11001011, 0b11011011], .set_3_E), ([0b11001011, 0b11011100], .set_3_H), ([0b11001011, 0b11011101], .set_3_L),
        ([0b11001011, 0b11011110], .set_3_atHL), ([0b11001011, 0b11011111], .set_3_A)]] = true := by decide

theorem test_decode_extended_E0 :
    decodesTo
      [[([0b11001011, 0b11100000], .set_4_B), ([0b11001011, 0b11100001], .set_4_C), ([0b11001011, 0b11100010], .set_4_D),
        ([0b11001011, 0b11100011], .set_4_E), ([0b11001011, 0b11100100], .set_4_H), ([0b11001011, 0b11100101], .set_4_L),
        ([0b11001011, 0b11100110], .set_4_atHL), ([0b11001011, 0b11100111], .set_4_A)],
      [([0b11001011, 0b11101000], .set_5_B), ([0b11001011, 0b11101001], .set_5_C), ([0b11001011, 0b11101010], .set_5_D),
        ([0b11001011, 0b11101011], .set_5_E), ([0b11001011, 0b11101100], .set_5_H), ([0b11001011, 0b11101101], .set_5_L),
        ([0b11001011, 0b11101110], .set_5_atHL), ([0b11001011, 0b11101111], .set_5_A)],
      [([0b11001011, 0b11110000], .set_6_B), ([0b11001011, 0b11110001], .set_6_C), ([0b11001011, 0b11110010], .set_6_D),
        ([0b11001011, 0b11110011], .set_6_E), ([0b11001011, 0b11110100], .set_6_H), ([0b11001011, 0b11110101], .set_6_L),
        ([0b11001011, 0b11110110], .set_6_atHL), ([0b11001011, 0b11110111], .set_6_A)],
      [([0b11001011, 0b11111000], .set_7_B), ([0b11001011, 0b11111001], .set_7_C), ([0b11001011, 0b11111010], .set_7_D),
        ([0b11001011, 0b11111011], .set_7_E), ([0b11001011, 0b11111100], .set_7_H), ([0b11001011, 0b11111101], .set_7_L),
        ([0b11001011, 0b11111110], .set_7_atHL), ([0b11001011, 0b11111111], .set_7_A)]] = true := by decide

theorem test_decode_needs_the_immediate : decode [0xCD, 0x50] = .error (.missingImmediate 0xCD) := by rfl
theorem test_decode_needs_the_second_byte : decode [0xCB] = .error .missingExtendedByte := by rfl

/-- A table row gives at most the first two bytes, as `byte0 * 256 + byte1` (30_encoding.md R105). -/
theorem test_decodeTableWord :
    decodeTableWord 16 0x3E00 = some (.ld_A_n 0) ∧ decodeTableWord 16 0xCB37 = some .swap_A ∧
      decodeTableWord 16 0x7600 = some .halt ∧ decodeTableWord 8 0x76 = some .halt := by decide

/-! One step, on rows of spec/95_test_vectors.md (start, bytes at PC, end, cycles returned as the row has them) -/

/-- The state with these bytes at PC. -/
def at_pc (bytes : List Byte) (s : State) : State := loadBytes s.pc bytes s

/-- The state with one byte of memory set. -/
def withByte (addr : Word) (v : Byte) (s : State) : State := loadBytes addr [v] s

/-- One step ends in a next state that the test accepts. -/
def stepTo (s : State) (check : State → Bool) : Bool :=
  match step s with
  | .next t => check t
  | _ => false

theorem test_V40_1_LD_B_C :
    stepTo (at_pc [0x41] State.reset)
      (fun t => decide (t.b = 0x13 ∧ t.pc = 0x0101 ∧ t.result = .ok 4)) = true := by decide
theorem test_V40_4_LD_D_atHL :
    stepTo (at_pc [0x56] (withByte 0xC000 0x5A { State.reset with h := 0xc0, l := 0x0 }))
      (fun t => decide (t.d = 0x5A ∧ t.pc = 0x0101 ∧ t.result = .ok 8)) = true := by decide
theorem test_V40_6_LD :
    stepTo (at_pc [0x75] { State.reset with h := 0xc0, l := 0xc1 })
      (fun t => decide (t.pc = 0x0101 ∧ t.byteAt 0xC0C1 = 0xC1 ∧ t.result = .ok 8)) = true := by decide
theorem test_V40_7_LD :
    stepTo (at_pc [0x36, 0x99] { State.reset with h := 0xc0, l := 0x0 })
      (fun t => decide (t.pc = 0x0102 ∧ t.byteAt 0xC000 = 0x99 ∧ t.result = .ok 12)) = true := by decide
theorem test_V40_12_LD_A_0xC123 :
    stepTo (at_pc [0xFA, 0x23, 0xC1] (withByte 0xC123 0x3C State.reset))
      (fun t => decide (t.a = 0x3C ∧ t.pc = 0x0103 ∧ t.result = .ok 16)) = true := by decide
theorem test_V40_14_LD :
    stepTo (at_pc [0xEA, 0x00, 0x20] { State.reset with a := 0x5E })
      (fun t => decide (t.pc = 0x0103 ∧ t.byteAt 0x2000 = 0x00 ∧ t.result = .ok 16)) = true := by decide
theorem test_V40_15_LDH_A_C :
    stepTo (at_pc [0xF2] (withByte 0xFF80 0x42 { State.reset with c := 0x80 }))
      (fun t => decide (t.a = 0x42 ∧ t.pc = 0x0101 ∧ t.result = .ok 8)) = true := by decide
theorem test_V40_18_LDH :
    stepTo (at_pc [0xE0, 0x01] { State.reset with a := 0x4F })
      (fun t => decide (t.pc = 0x0102 ∧ t.byteAt 0xFF01 = 0x4F ∧ t.result = .ok 12)) = true := by decide
theorem test_V40_21_LD :
    stepTo (at_pc [0x22] { State.reset with h := 0xff, l := 0xff, a := 0x12 })
      (fun t => decide (t.h = 0x00 ∧ t.l = 0x00 ∧ t.pc = 0x0101 ∧ t.byteAt 0xFFFF = 0x12 ∧ t.result = .ok 8)) = true := by decide
theorem test_V40_24_LD_A_HL :
    stepTo (at_pc [0x3A] (withByte 0x0000 0x15 { State.reset with h := 0x0, l := 0x0 }))
      (fun t => decide (t.a = 0x15 ∧ t.h = 0xFF ∧ t.l = 0xFF ∧ t.pc = 0x0101 ∧ t.result = .ok 8)) = true := by decide
theorem test_V40_25_LD_A_atHL :
    stepTo (at_pc [0x7E] { State.reset with pc := 0xC000, h := 0xc0, l := 0x0 })
      (fun t => decide (t.a = 0x7E ∧ t.pc = 0xC001 ∧ t.result = .ok 8)) = true := by decide
theorem test_V41_1_LD_BC_0x1234 :
    stepTo (at_pc [0x01, 0x34, 0x12] State.reset)
      (fun t => decide (t.b = 0x12 ∧ t.c = 0x34 ∧ t.pc = 0x0103 ∧ t.result = .ok 12)) = true := by decide
theorem test_V41_4_LD :
    stepTo (at_pc [0x08, 0xFF, 0xFF] { State.reset with sp := 0xABCD })
      (fun t => decide (t.pc = 0x0103 ∧ t.byteAt 0xFFFF = 0xCD ∧ t.byteAt 0x0000 = 0x00 ∧ t.result = .ok 20)) = true := by decide
theorem test_V41_5_LD_SP_HL :
    stepTo (at_pc [0xF9] { State.reset with h := 0xd0, l := 0x0 })
      (fun t => decide (t.sp = 0xD000 ∧ t.pc = 0x0101 ∧ t.result = .ok 8)) = true := by decide
theorem test_V41_7_LD_HL_SP_1 :
    stepTo (at_pc [0xF8, 0xFF] { State.reset with sp := 0x0001 })
      (fun t => decide (t.f = 0x30 ∧ t.h = 0x00 ∧ t.l = 0x00 ∧ t.pc = 0x0102 ∧ t.result = .ok 12)) = true := by decide
theorem test_V41_10_LD_HL_SP0 :
    stepTo (at_pc [0xF8, 0x00] { State.reset with sp := 0xD0FF, f := 0xF0 })
      (fun t => decide (t.f = 0x00 ∧ t.h = 0xD0 ∧ t.l = 0xFF ∧ t.pc = 0x0102 ∧ t.result = .ok 12)) = true := by decide
theorem test_V41_12_PUSH_AF :
    stepTo (at_pc [0xF5] { State.reset with a := 0x9C, f := 0x50 })
      (fun t => decide (t.sp = 0xFFFC ∧ t.pc = 0x0101 ∧ t.f = 0x50 ∧ t.byteAt 0xFFFC = 0x50 ∧ t.byteAt 0xFFFD = 0x9C ∧ t.result = .ok 16)) = true := by decide
theorem test_V41_13_PUSH_DE :
    stepTo (at_pc [0xD5] { State.reset with sp := 0x0001, d := 0xbe, e := 0xef })
      (fun t => decide (t.sp = 0xFFFF ∧ t.pc = 0x0101 ∧ t.byteAt 0xFFFF = 0xEF ∧ t.byteAt 0x0000 = 0x00 ∧ t.result = .ok 16)) = true := by decide
theorem test_V41_15_POP_HL :
    stepTo (at_pc [0xE1] (withByte 0x0000 0xAB (withByte 0xFFFF 0xCD { State.reset with sp := 0xFFFF })))
      (fun t => decide (t.h = 0xAB ∧ t.l = 0xCD ∧ t.sp = 0x0001 ∧ t.pc = 0x0101 ∧ t.result = .ok 12)) = true := by decide
theorem test_V41_16_POP_AF :
    stepTo (at_pc [0xF1] (withByte 0xFFFD 0x12 (withByte 0xFFFC 0xFF { State.reset with sp := 0xFFFC })))
      (fun t => decide (t.a = 0x12 ∧ t.f = 0xF0 ∧ t.sp = 0xFFFE ∧ t.pc = 0x0101 ∧ t.result = .ok 12)) = true := by decide
theorem test_V42_2_HALT :
    stepTo (at_pc [0x76] State.reset)
      (fun t => decide (t.pc = 0x0101 ∧ t.halted = true ∧ t.result = .ok 4)) = true := by decide
theorem test_V42_3_halted_step :
    stepTo (at_pc [0x3C] { State.reset with halted := true })
      (fun t => decide (t.pc = 0x0100 ∧ t.result = .ok 4)) = true := by decide
theorem test_V42_5_STOP :
    stepTo (at_pc [0x10, 0x3C] State.reset)
      (fun t => decide (t.pc = 0x0101 ∧ t.result = .ok 4)) = true := by decide
theorem test_V42_7_EI :
    stepTo (at_pc [0xFB] State.reset)
      (fun t => decide (t.pc = 0x0101 ∧ t.ime = true ∧ t.result = .ok 4)) = true := by decide
theorem test_V42_8_DI :
    stepTo (at_pc [0xF3] { State.reset with ime := true })
      (fun t => decide (t.pc = 0x0101 ∧ t.ime = false ∧ t.result = .ok 4)) = true := by decide
theorem test_V42_11_undefined :
    stepTo (at_pc [0xD3] State.reset)
      (fun t => decide (t.pc = 0x0101 ∧ t.faulted = true ∧ t.result = .decodeFault 0xD3 0x0100)) = true := by decide
theorem test_V42_12_undefined :
    stepTo (at_pc [0xFD] { State.reset with pc := 0xFFFF })
      (fun t => decide (t.pc = 0x0000 ∧ t.faulted = true ∧ t.result = .decodeFault 0xFD 0xFFFF)) = true := by decide
theorem test_V42_15_CB :
    stepTo (at_pc [0xCB, 0x00] { State.reset with pc := 0xFFFF, b := 0x80 })
      (fun t => decide (t.f = 0x10 ∧ t.b = 0x01 ∧ t.pc = 0x0001 ∧ t.result = .ok 8)) = true := by decide
theorem test_V42_16_CB_D3_SET_2_E :
    stepTo (at_pc [0xCB, 0xD3] { State.reset with e := 0x00 })
      (fun t => decide (t.e = 0x04 ∧ t.pc = 0x0102 ∧ t.result = .ok 8)) = true := by decide
theorem test_V43_2_ADD_A_C :
    stepTo (at_pc [0x81] { State.reset with a := 0x0F, c := 0x01, f := 0xF0 })
      (fun t => decide (t.a = 0x10 ∧ t.f = 0x20 ∧ t.pc = 0x0101 ∧ t.result = .ok 4)) = true := by decide
theorem test_V43_5_ADD_A_0xFF :
    stepTo (at_pc [0xC6, 0xFF] { State.reset with a := 0x01, f := 0x00 })
      (fun t => decide (t.a = 0x00 ∧ t.f = 0xB0 ∧ t.pc = 0x0102 ∧ t.result = .ok 8)) = true := by decide
theorem test_V43_7_ADC_A_B :
    stepTo (at_pc [0x88] { State.reset with a := 0x0E, b := 0x01, f := 0x10 })
      (fun t => decide (t.a = 0x10 ∧ t.f = 0x20 ∧ t.pc = 0x0101 ∧ t.result = .ok 4)) = true := by decide
theorem test_V43_10_ADC_A_atHL :
    stepTo (at_pc [0x8E] (withByte 0xC000 0x0F { State.reset with a := 0xF0, f := 0x10, h := 0xc0, l := 0x0 }))
      (fun t => decide (t.a = 0x00 ∧ t.f = 0xB0 ∧ t.pc = 0x0101 ∧ t.result = .ok 8)) = true := by decide
theorem test_V43_13_SUB_B :
    stepTo (at_pc [0x90] { State.reset with a := 0x00, b := 0x01, f := 0x00 })
      (fun t => decide (t.a = 0xFF ∧ t.f = 0x70 ∧ t.pc = 0x0101 ∧ t.result = .ok 4)) = true := by decide
theorem test_V43_17_SBC_A_B :
    stepTo (at_pc [0x98] { State.reset with a := 0x10, b := 0x0F, f := 0x10 })
      (fun t => decide (t.a = 0x00 ∧ t.f = 0xE0 ∧ t.pc = 0x0101 ∧ t.result = .ok 4)) = true := by decide
theorem test_V43_20_SBC_A_atHL :
    stepTo (at_pc [0x9E] (withByte 0xC000 0x4F { State.reset with a := 0x3B, f := 0x10, h := 0xc0, l := 0x0 }))
      (fun t => decide (t.a = 0xEB ∧ t.f = 0x70 ∧ t.pc = 0x0101 ∧ t.result = .ok 8)) = true := by decide
theorem test_V43_21_SBC_A_0x00 :
    stepTo (at_pc [0xDE, 0x00] { State.reset with a := 0x00, f := 0x00 })
      (fun t => decide (t.f = 0xC0 ∧ t.pc = 0x0102 ∧ t.result = .ok 8)) = true := by decide
theorem test_V43_23_AND_0x0F :
    stepTo (at_pc [0xE6, 0x0F] { State.reset with a := 0xF0, f := 0x10 })
      (fun t => decide (t.a = 0x00 ∧ t.f = 0xA0 ∧ t.pc = 0x0102 ∧ t.result = .ok 8)) = true := by decide
theorem test_V43_25_XOR_A :
    stepTo (at_pc [0xAF] { State.reset with a := 0x77, f := 0xF0 })
      (fun t => decide (t.a = 0x00 ∧ t.f = 0x80 ∧ t.pc = 0x0101 ∧ t.result = .ok 4)) = true := by decide
theorem test_V43_30_OR :
    stepTo (at_pc [0xB6] (withByte 0xC000 0x30 { State.reset with a := 0x0C, h := 0xc0, l := 0x0 }))
      (fun t => decide (t.a = 0x3C ∧ t.f = 0x00 ∧ t.pc = 0x0101 ∧ t.result = .ok 8)) = true := by decide
theorem test_V43_32_CP_0x40 :
    stepTo (at_pc [0xFE, 0x40] { State.reset with a := 0x3C, f := 0x00 })
      (fun t => decide (t.f = 0x50 ∧ t.pc = 0x0102 ∧ t.result = .ok 8)) = true := by decide
theorem test_V43_36_INC_B :
    stepTo (at_pc [0x04] { State.reset with b := 0xFF, f := 0x00 })
      (fun t => decide (t.f = 0xA0 ∧ t.b = 0x00 ∧ t.pc = 0x0101 ∧ t.result = .ok 4)) = true := by decide
theorem test_V43_38_INC :
    stepTo (at_pc [0x34] (withByte 0xC000 0x7F { State.reset with h := 0xc0, l := 0x0, f := 0x00 }))
      (fun t => decide (t.f = 0x20 ∧ t.pc = 0x0101 ∧ t.byteAt 0xC000 = 0x80 ∧ t.result = .ok 12)) = true := by decide
theorem test_V43_40_DEC_C :
    stepTo (at_pc [0x0D] { State.reset with c := 0x00, f := 0x00 })
      (fun t => decide (t.f = 0x60 ∧ t.c = 0xFF ∧ t.pc = 0x0101 ∧ t.result = .ok 4)) = true := by decide
theorem test_V43_42_DEC :
    stepTo (at_pc [0x35] (withByte 0xC000 0x00 { State.reset with h := 0xc0, l := 0x0, f := 0x10 }))
      (fun t => decide (t.f = 0x70 ∧ t.pc = 0x0101 ∧ t.byteAt 0xC000 = 0xFF ∧ t.result = .ok 12)) = true := by decide
theorem test_V43_48_DAA :
    stepTo (at_pc [0x27] { State.reset with a := 0x9A, f := 0x00 })
      (fun t => decide (t.a = 0x00 ∧ t.f = 0x90 ∧ t.pc = 0x0101 ∧ t.result = .ok 4)) = true := by decide
theorem test_V43_51_DAA :
    stepTo (at_pc [0x27] { State.reset with a := 0xFF, f := 0x70 })
      (fun t => decide (t.a = 0x99 ∧ t.f = 0x50 ∧ t.pc = 0x0101 ∧ t.result = .ok 4)) = true := by decide
theorem test_V43_54_CPL :
    stepTo (at_pc [0x2F] { State.reset with a := 0xFF, f := 0x00 })
      (fun t => decide (t.a = 0x00 ∧ t.f = 0x60 ∧ t.pc = 0x0101 ∧ t.result = .ok 4)) = true := by decide
theorem test_V43_56_SCF :
    stepTo (at_pc [0x37] { State.reset with f := 0x10 })
      (fun t => decide (t.pc = 0x0101 ∧ t.f = 0x10 ∧ t.result = .ok 4)) = true := by decide
theorem test_V43_57_CCF :
    stepTo (at_pc [0x3F] { State.reset with f := 0xF0 })
      (fun t => decide (t.f = 0x80 ∧ t.pc = 0x0101 ∧ t.result = .ok 4)) = true := by decide
theorem test_V44_1_ADD_HL_BC :
    stepTo (at_pc [0x09] { State.reset with h := 0xf, l := 0xff, b := 0x0, c := 0x1, f := 0xC0 })
      (fun t => decide (t.f = 0xA0 ∧ t.h = 0x10 ∧ t.l = 0x00 ∧ t.pc = 0x0101 ∧ t.result = .ok 8)) = true := by decide
theorem test_V44_4_ADD_HL_SP :
    stepTo (at_pc [0x39] { State.reset with h := 0x0, l := 0x1, sp := 0xFFFF, f := 0x40 })
      (fun t => decide (t.f = 0x30 ∧ t.l = 0x00 ∧ t.pc = 0x0101 ∧ t.result = .ok 8)) = true := by decide
theorem test_V44_6_INC_BC :
    stepTo (at_pc [0x03] { State.reset with b := 0xff, c := 0xff })
      (fun t => decide (t.b = 0x00 ∧ t.c = 0x00 ∧ t.pc = 0x0101 ∧ t.result = .ok 8)) = true := by decide
theorem test_V44_8_DEC_SP :
    stepTo (at_pc [0x3B] { State.reset with sp := 0x0000 })
      (fun t => decide (t.sp = 0xFFFF ∧ t.pc = 0x0101 ∧ t.result = .ok 8)) = true := by decide
theorem test_V44_14_ADD_SP_2 :
    stepTo (at_pc [0xE8, 0xFE] { State.reset with sp := 0xFFFE })
      (fun t => decide (t.f = 0x30 ∧ t.sp = 0xFFFC ∧ t.pc = 0x0102 ∧ t.result = .ok 16)) = true := by decide
theorem test_V44_16_ADD_SP_128 :
    stepTo (at_pc [0xE8, 0x80] { State.reset with sp := 0xD000 })
      (fun t => decide (t.f = 0x00 ∧ t.sp = 0xCF80 ∧ t.pc = 0x0102 ∧ t.result = .ok 16)) = true := by decide
theorem test_V45_2_RLCA :
    stepTo (at_pc [0x07] { State.reset with a := 0x00, f := 0xF0 })
      (fun t => decide (t.f = 0x00 ∧ t.pc = 0x0101 ∧ t.result = .ok 4)) = true := by decide
theorem test_V45_5_RLA :
    stepTo (at_pc [0x17] { State.reset with a := 0x00, f := 0x10 })
      (fun t => decide (t.a = 0x01 ∧ t.f = 0x00 ∧ t.pc = 0x0101 ∧ t.result = .ok 4)) = true := by decide
theorem test_V45_7_RRA :
    stepTo (at_pc [0x1F] { State.reset with a := 0x00, f := 0x10 })
      (fun t => decide (t.a = 0x80 ∧ t.f = 0x00 ∧ t.pc = 0x0101 ∧ t.result = .ok 4)) = true := by decide
theorem test_V45_8_RLC_B :
    stepTo (at_pc [0xCB, 0x00] { State.reset with b := 0x85, f := 0x00 })
      (fun t => decide (t.f = 0x10 ∧ t.b = 0x0B ∧ t.pc = 0x0102 ∧ t.result = .ok 8)) = true := by decide
theorem test_V45_10_RLC :
    stepTo (at_pc [0xCB, 0x06] (withByte 0xC000 0x80 { State.reset with h := 0xc0, l := 0x0, f := 0x00 }))
      (fun t => decide (t.f = 0x10 ∧ t.pc = 0x0102 ∧ t.byteAt 0xC000 = 0x01 ∧ t.result = .ok 16)) = true := by decide
theorem test_V45_12_RRC :
    stepTo (at_pc [0xCB, 0x0E] (withByte 0xC000 0x02 { State.reset with h := 0xc0, l := 0x0, f := 0x10 }))
      (fun t => decide (t.f = 0x00 ∧ t.pc = 0x0102 ∧ t.byteAt 0xC000 = 0x01 ∧ t.result = .ok 16)) = true := by decide
theorem test_V45_14_RL_D :
    stepTo (at_pc [0xCB, 0x12] { State.reset with d := 0x11, f := 0x10 })
      (fun t => decide (t.f = 0x00 ∧ t.d = 0x23 ∧ t.pc = 0x0102 ∧ t.result = .ok 8)) = true := by decide
theorem test_V45_18_RR :
    stepTo (at_pc [0xCB, 0x1E] (withByte 0xC000 0x00 { State.reset with h := 0xc0, l := 0x0, f := 0x10 }))
      (fun t => decide (t.f = 0x00 ∧ t.pc = 0x0102 ∧ t.byteAt 0xC000 = 0x80 ∧ t.result = .ok 16)) = true := by decide
theorem test_V45_20_SLA_A :
    stepTo (at_pc [0xCB, 0x27] { State.reset with a := 0x55, f := 0x10 })
      (fun t => decide (t.a = 0xAA ∧ t.f = 0x00 ∧ t.pc = 0x0102 ∧ t.result = .ok 8)) = true := by decide
theorem test_V45_24_SRA :
    stepTo (at_pc [0xCB, 0x2E] (withByte 0xC000 0xFE { State.reset with h := 0xc0, l := 0x0, f := 0x10 }))
      (fun t => decide (t.f = 0x00 ∧ t.pc = 0x0102 ∧ t.byteAt 0xC000 = 0xFF ∧ t.result = .ok 16)) = true := by decide
theorem test_V45_27_SWAP :
    stepTo (at_pc [0xCB, 0x36] (withByte 0xC000 0x12 { State.reset with h := 0xc0, l := 0x0, f := 0x10 }))
      (fun t => decide (t.f = 0x00 ∧ t.pc = 0x0102 ∧ t.byteAt 0xC000 = 0x21 ∧ t.result = .ok 16)) = true := by decide
theorem test_V45_30_SRL :
    stepTo (at_pc [0xCB, 0x3E] (withByte 0xC000 0x80 { State.reset with h := 0xc0, l := 0x0, f := 0x10 }))
      (fun t => decide (t.f = 0x00 ∧ t.pc = 0x0102 ∧ t.byteAt 0xC000 = 0x40 ∧ t.result = .ok 16)) = true := by decide
theorem test_V45_31_BIT_7_H :
    stepTo (at_pc [0xCB, 0x7C] { State.reset with h := 0x80, l := 0x0, f := 0x10 })
      (fun t => decide (t.f = 0x30 ∧ t.pc = 0x0102 ∧ t.result = .ok 8)) = true := by decide
theorem test_V45_34_BIT_3_atHL :
    stepTo (at_pc [0xCB, 0x5E] (withByte 0xC000 0x08 { State.reset with h := 0xc0, l := 0x0, f := 0xC0 }))
      (fun t => decide (t.f = 0x20 ∧ t.pc = 0x0102 ∧ t.result = .ok 12)) = true := by decide
theorem test_V45_35_RES_0_atHL :
    stepTo (at_pc [0xCB, 0x86] (withByte 0xC000 0xFF { State.reset with h := 0xc0, l := 0x0 }))
      (fun t => decide (t.pc = 0x0102 ∧ t.byteAt 0xC000 = 0xFE ∧ t.result = .ok 16)) = true := by decide
theorem test_V45_38_SET_7_A :
    stepTo (at_pc [0xCB, 0xFF] { State.reset with a := 0x00, f := 0x00 })
      (fun t => decide (t.a = 0x80 ∧ t.pc = 0x0102 ∧ t.f = 0x00 ∧ t.result = .ok 8)) = true := by decide
theorem test_V46_3_JP_NZ_0x0200 :
    stepTo (at_pc [0xC2, 0x00, 0x02] { State.reset with f := 0x80 })
      (fun t => decide (t.pc = 0x0103 ∧ t.f = 0x80 ∧ t.result = .ok 12)) = true := by decide
theorem test_V46_4_JP_Z_0x0200 :
    stepTo (at_pc [0xCA, 0x00, 0x02] { State.reset with f := 0x80 })
      (fun t => decide (t.pc = 0x0200 ∧ t.f = 0x80 ∧ t.result = .ok 12)) = true := by decide
theorem test_V46_7_JP_HL :
    stepTo (at_pc [0xE9] { State.reset with h := 0xc1, l := 0x23 })
      (fun t => decide (t.pc = 0xC123 ∧ t.result = .ok 4)) = true := by decide
theorem test_V46_10_JR_0x10 :
    stepTo (at_pc [0x18, 0x10] { State.reset with pc := 0xFFFE })
      (fun t => decide (t.pc = 0x0010 ∧ t.result = .ok 12)) = true := by decide
theorem test_V46_12_JR_128 :
    stepTo (at_pc [0x18, 0x80] State.reset)
      (fun t => decide (t.pc = 0x0082 ∧ t.result = .ok 12)) = true := by decide
theorem test_V46_14_JR_NZ_4 :
    stepTo (at_pc [0x20, 0xFC] { State.reset with f := 0x00 })
      (fun t => decide (t.pc = 0x00FE ∧ t.f = 0x00 ∧ t.result = .ok 8)) = true := by decide
theorem test_V46_15_JR_NZ_4 :
    stepTo (at_pc [0x20, 0xFC] { State.reset with f := 0x80 })
      (fun t => decide (t.pc = 0x0102 ∧ t.f = 0x80 ∧ t.result = .ok 8)) = true := by decide
theorem test_V46_19_CALL_0x0150 :
    stepTo (at_pc [0xCD, 0x50, 0x01] State.reset)
      (fun t => decide (t.sp = 0xFFFC ∧ t.pc = 0x0150 ∧ t.byteAt 0xFFFC = 0x03 ∧ t.byteAt 0xFFFD = 0x01 ∧ t.result = .ok 24)) = true := by decide
theorem test_V46_22_CALL_C_0x0150 :
    stepTo (at_pc [0xDC, 0x50, 0x01] { State.reset with f := 0x00 })
      (fun t => decide (t.pc = 0x0103 ∧ t.f = 0x00 ∧ t.result = .ok 12)) = true := by decide
theorem test_V46_24_CALL_0x1234 :
    stepTo (at_pc [0xCD, 0x34, 0x12] (withByte 0xCFFF 0xAA (withByte 0xCFFE 0xAA { State.reset with pc := 0xFFFD, sp := 0xD000 })))
      (fun t => decide (t.sp = 0xCFFE ∧ t.pc = 0x1234 ∧ t.byteAt 0xCFFE = 0x00 ∧ t.byteAt 0xCFFF = 0x00 ∧ t.result = .ok 24)) = true := by decide
theorem test_V46_26_RET_NZ :
    stepTo (at_pc [0xC0] (withByte 0xFFFD 0x01 (withByte 0xFFFC 0x03 { State.reset with f := 0x80, sp := 0xFFFC })))
      (fun t => decide (t.pc = 0x0101 ∧ t.f = 0x80 ∧ t.result = .ok 8)) = true := by decide
theorem test_V46_27_RET_Z :
    stepTo (at_pc [0xC8] (withByte 0xFFFD 0x01 (withByte 0xFFFC 0x03 { State.reset with f := 0x80, sp := 0xFFFC })))
      (fun t => decide (t.sp = 0xFFFE ∧ t.pc = 0x0103 ∧ t.f = 0x80 ∧ t.result = .ok 8)) = true := by decide
theorem test_V46_30_RETI :
    stepTo (at_pc [0xD9] (withByte 0xFFFD 0x01 (withByte 0xFFFC 0x03 { State.reset with sp := 0xFFFC })))
      (fun t => decide (t.sp = 0xFFFE ∧ t.pc = 0x0103 ∧ t.ime = true ∧ t.result = .ok 16)) = true := by decide
theorem test_V46_34_RST_0x38 :
    stepTo (at_pc [0xFF] State.reset)
      (fun t => decide (t.sp = 0xFFFC ∧ t.pc = 0x0038 ∧ t.byteAt 0xFFFC = 0x01 ∧ t.byteAt 0xFFFD = 0x01 ∧ t.result = .ok 16)) = true := by decide
theorem test_V46_35_RST_0x28 :
    stepTo (at_pc [0xEF] (withByte 0xCFFF 0xAA (withByte 0xCFFE 0xAA { State.reset with pc := 0xFFFF, sp := 0xD000 })))
      (fun t => decide (t.sp = 0xCFFE ∧ t.pc = 0x0028 ∧ t.byteAt 0xCFFE = 0x00 ∧ t.byteAt 0xCFFF = 0x00 ∧ t.result = .ok 16)) = true := by decide
theorem test_S2_LD_A_0x42 :
    stepTo (at_pc [0x3E, 0x42] State.reset)
      (fun t => decide (t.a = 0x42 ∧ t.pc = 0x0102 ∧ t.result = .ok 8)) = true := by decide
theorem test_S4b_SUB_B :
    stepTo (at_pc [0x90] { State.reset with a := 0x3C, b := 0x2A })
      (fun t => decide (t.a = 0x12 ∧ t.f = 0x40 ∧ t.pc = 0x0101 ∧ t.result = .ok 4)) = true := by decide

/-! For every obligation with hypotheses, states and operands that meet all of them together -/

/-- A stack and a data byte in the read/write store. -/
def ram : State := withByte 0xC000 0x7F { State.reset with h := 0xC0, l := 0x00, sp := 0xD000 }

/-- A core on a bus of which nothing is known. -/
def onOtherBus : State := { State.reset with bus := .other 7 [] }

/-- A core whose host stores a byte before the next step and two at one address before the one after. -/
def withHost (s : State) : State :=
  { s with hostWrites := [[(0x0100, 0x76)], [(0xC000, 0x01), (0xC000, 0x02)]] }

/-- A cycle table that is not the default one. -/
def otherCycles : CycleTable := { primary := Vector.replicate 256 7, extended := Vector.replicate 256 9 }

/-! The parameters of 00_scope.md R4 -/

/-- A change by the host lands before the step fetches (20_memory.md R69). -/
theorem test_host_change_lands_before_the_step :
    stepTo (withHost State.reset) (fun t => decide (t.halted = true ∧ t.hostWrites = [[(0xC000, 0x01), (0xC000, 0x02)]])) =
      true := by decide

/-- A halted core's bus still takes the host's changes, the last byte at an address last. -/
theorem test_host_change_under_halt :
    stepTo { (withHost State.reset) with halted := true, hostWrites := (withHost State.reset).hostWrites.tail }
      (fun t => decide (t.byteAt 0xC000 = 0x02 ∧ t.hostWrites = [] ∧ t.busLog = [])) = true := by decide

/-- The step returns the entry of the table it has, taken from the primary or the extended half. -/
theorem test_cycles_of_another_table :
    stepTo (at_pc [0x00] { State.reset with cycles := otherCycles }) (fun t => decide (t.result = .ok 7)) = true ∧
      stepTo (at_pc [0xCB, 0x00] { State.reset with cycles := otherCycles }) (fun t => decide (t.result = .ok 9)) = true ∧
      stepTo { State.reset with cycles := otherCycles, halted := true } (fun t => decide (t.result = .ok 4)) = true := by
  decide

/-- Another bus takes part in each access by its own answer: a read is recorded with what it answered. -/
theorem test_read_on_another_bus :
    exec (.ld_A_atnn 0xC000) onOtherBus =
      .next
        { onOtherBus with
          a := Config.otherBus 7 [] 0xC000, busLog := [.read 0xC000 (Config.otherBus 7 [] 0xC000)]
          bus := .other 7 [.transaction (.read 0xC000 (Config.otherBus 7 [] 0xC000))] } := rfl

/-- And a write reaches it, whatever the address. -/
theorem test_write_on_another_bus :
    exec (.ld_atnn_A 0x0000) onOtherBus =
      .next
        { onOtherBus with
          bus := .other 7 [.transaction (.write 0x0000 0x01)], busLog := [.write 0x0000 0x01] } := rfl

/-- A step that the test accepts has a next state. -/
theorem next_of_stepTo {s : State} {check : State → Bool} (h : stepTo s check = true) :
    ∃ t, step s = .next t ∧ check t = true := by
  unfold stepTo at h
  split at h
  · next t ht => exact ⟨t, ht, h⟩
  · cases h

theorem witness_DecodeEncodeAgree :
    wellFormed (.undefined 0xD3) = true ∧ wellFormed (.undefined 0xFD) = true ∧ wellFormed (.ld_SP_nn 0xFFFF) = true ∧
      wellFormed .set_7_A = true := by decide

theorem witness_EncodeDecodeAgree :
    decode [0xCD, 0x50, 0x01, 0xAA] = .ok (.call_nn 0x0150, [0xAA]) ∧ decode [0xCB, 0xFF] = .ok (.set_7_A, []) :=
  ⟨rfl, rfl⟩

theorem witness_StepKeepsInvariant :
    (at_pc [0x34] ram).Inv ∧ ∃ t, step (at_pc [0x34] ram) = .next t ∧ decide (t.f = 0x30) = true :=
  ⟨by unfold State.Inv; decide, next_of_stepTo (by decide)⟩

theorem witness_StepRunsDecodedInstruction :
    ((at_pc [0xCD, 0x50, 0x01] State.reset).Running ∧
        decode (beginStep (at_pc [0xCD, 0x50, 0x01] State.reset)).bytesAtPC = .ok (.call_nn 0x0150, [])) ∧
      ((at_pc [0xCB, 0x37] { State.reset with pc := 0xFFFF }).Running ∧
        decode (beginStep (at_pc [0xCB, 0x37] { State.reset with pc := 0xFFFF })).bytesAtPC = .ok (.swap_A, [0x00])) ∧
      (withHost State.reset).Running ∧
        decode (beginStep (withHost State.reset)).bytesAtPC = .ok (.halt, [0x00, 0x00]) :=
  ⟨⟨⟨rfl, rfl⟩, rfl⟩, ⟨⟨rfl, rfl⟩, rfl⟩, ⟨rfl, rfl⟩, rfl⟩

/-- Each of the four kinds of change: none, one on the reference bus, two at one address, one on another bus. -/
theorem witness_HostChangesBetweenSteps :
    (State.reset.nextHostChange = [] ∧ ∃ t, step State.reset = .next t ∧ decide (t.pc = 0x0101) = true) ∧
      (withHost State.reset).nextHostChange = [] ++ ((0x0100 : Word), (0x76 : Byte)) :: [] ∧
      ({ (withHost State.reset) with hostWrites := [[(0xC000, 0x01), (0xC000, 0x02)]] } : State).nextHostChange =
        [((0xC000 : Word), (0x01 : Byte))] ++ (0xC000, 0x02) :: [] ∧
      (withHost onOtherBus).bus = .other 7 [] ∧ (withHost onOtherBus).nextHostChange ≠ [] :=
  ⟨⟨rfl, next_of_stepTo (by decide)⟩, rfl, rfl, rfl, by decide⟩

theorem witness_StepAlwaysEnds : State.reset.faulted = false ∧ ({ State.reset with halted := true } : State).faulted = false :=
  ⟨rfl, rfl⟩

theorem witness_FaultedCoreIsStuckUntilReset : ({ ram with faulted := true } : State).faulted = true := rfl

theorem witness_StepMakesAtMostFiveTransactions :
    ∃ t, step (at_pc [0xCD, 0x50, 0x01] State.reset) = .next t ∧ decide (t.busLog.length = 5) = true :=
  next_of_stepTo (by decide)

theorem witness_HaltedCoreIdlesForever :
    ({ ram with halted := true } : State).halted = true ∧ ({ ram with halted := true } : State).faulted = false := ⟨rfl, rfl⟩

theorem witness_OnlyHaltSetsHalted :
    ((at_pc [0x76] ram).Running ∧ ∃ t, step (at_pc [0x76] ram) = .next t ∧ t.halted = true) ∧
      ((at_pc [0x00] ram).Running ∧ ∃ t, step (at_pc [0x00] ram) = .next t ∧ (!t.halted) = true) ∧
      (beginStep (at_pc [0x76] ram)).byteAt (at_pc [0x76] ram).pc = 0x76 :=
  ⟨⟨⟨rfl, rfl⟩, next_of_stepTo (by decide)⟩, ⟨⟨rfl, rfl⟩, next_of_stepTo (by decide)⟩, by decide⟩

theorem witness_OnlyEiDiRetiWriteIme :
    ∀ x ∈ ([(0xFB, true), (0xD9, true), (0xF3, false), (0x00, false)] : List (Byte × Bool)),
      (at_pc [x.1] ram).Running ∧ (beginStep (at_pc [x.1] ram)).byteAt (at_pc [x.1] ram).pc = x.1 ∧
        ∃ t, step (at_pc [x.1] ram) = .next t ∧ decide (t.ime = x.2) = true := by
  intro x hx
  simp only [List.mem_cons, List.not_mem_nil, or_false] at hx
  rcases hx with rfl | rfl | rfl | rfl <;> exact ⟨⟨rfl, rfl⟩, by decide, next_of_stepTo (by decide)⟩

theorem witness_ImeAndOutputsGateNothing :
    (ram.AgreeButUnread { ram with ime := true, result := .ok 4, cycles := otherCycles } ∧
        ∃ t, step ram = .next t ∧ decide (t.pc = 0x0101 ∧ t.result = .ok 4) = true) ∧
      (ram.cycles = ({ ram with ime := true } : State).cycles ∧
        ∃ t, step (at_pc [0xD3] ram) = .next t ∧ decide (t.result = .decodeFault 0xD3 0x0100) = true) ∧
      ({ ram with faulted := true } : State).AgreeButUnread { ram with faulted := true, ime := true } ∧
      step { ram with faulted := true } = .fault .stuckAfterDecodeFault :=
  ⟨⟨rfl, next_of_stepTo (by decide)⟩, ⟨rfl, next_of_stepTo (by decide)⟩, rfl, step_faulted rfl⟩

theorem witness_UndefinedOpcodeTakesDecodeFault :
    ∀ op ∈ ([0xD3, 0xFD] : List Byte),
      (at_pc [op] ram).Running ∧ (beginStep (at_pc [op] ram)).byteAt (at_pc [op] ram).pc = op ∧ op ∈ undefinedOpcodes := by
  intro op hx
  simp only [List.mem_cons, List.not_mem_nil, or_false] at hx
  rcases hx with rfl | rfl <;> exact ⟨⟨rfl, rfl⟩, by decide, by decide⟩

/-- An extended instruction and a primary one, under another cycle table. -/
theorem witness_OnlyUndefinedOpcodesFault :
    ∀ x ∈ ([(0xCB, 0xD3, 9), (0x00, 0xD3, 7)] : List (Byte × Byte × Nat)), ∀ s : State,
      s = at_pc [x.1, x.2.1] { ram with cycles := otherCycles } →
      s.Running ∧ (beginStep s).byteAt s.pc = x.1 ∧ ((beginStep s).readAt s.pc).byteAt (s.pc + 1) = x.2.1 ∧
        (∃ t, step s = .next t ∧ decide (t.result = .ok x.2.2) = true) ∧ x.1 ∉ undefinedOpcodes := by
  rintro x hx s rfl
  simp only [List.mem_cons, List.not_mem_nil, or_false] at hx
  rcases hx with rfl | rfl <;>
    exact ⟨⟨rfl, rfl⟩, by decide, by decide, next_of_stepTo (by decide), by decide⟩

theorem witness_MemoryChangesOnlyByBusWrites :
    (∃ m, (beginStep (at_pc [0x34] ram)).bus = .flat .ignore m) ∧
      ∃ t, step (at_pc [0x34] ram) = .next t ∧
        decide (t.byteAt 0xC000 ≠ (beginStep (at_pc [0x34] ram)).byteAt 0xC000 ∧
          BusEvent.write 0xC000 0x80 ∈ t.busLog) = true :=
  ⟨⟨_, rfl⟩, next_of_stepTo (by decide)⟩

theorem witness_CartridgeIsReadOnlyUnderIgnore :
    (∃ m, (beginStep (at_pc [0x77] { State.reset with h := 0x7F, l := 0xFF })).bus = .flat .ignore m) ∧
      ∃ t, step (at_pc [0x77] { State.reset with h := 0x7F, l := 0xFF }) = .next t ∧
        decide (BusEvent.write 0x7FFF 0x01 ∈ t.busLog ∧ t.byteAt 0x7FFF = 0x00) = true :=
  ⟨⟨_, rfl⟩, next_of_stepTo (by decide)⟩

/-- The two clauses of a write at their boundary, and the policy that keeps the lower one. -/
theorem witness_FlatBusReadsAndWrites :
    (busWrite 0x8000 0xAB ram).byteAt 0x8000 = 0xAB ∧ (busWrite 0x7FFF 0xAB ram).byteAt 0x7FFF = 0x00 ∧
      (busWrite 0x7FFF 0xAB { ram with bus := .flat .store [] }).byteAt 0x7FFF = 0xAB := by decide

theorem witness_StackPrimitives :
    (0xFFFF : Word).toNat = (0xFF : Byte).toNat * 256 + (0xFF : Byte).toNat ∧
      (0x0100 : Word).toNat = (0x01 : Byte).toNat * 256 + (0x00 : Byte).toNat ∧
      ({ ram with sp := 0xBFFF } : State).byteAt 0xBFFF = 0x00 ∧
      (({ ram with sp := 0xBFFF } : State).readAt 0xBFFF).byteAt (0xBFFF + 1) = 0x7F := by decide

theorem witness_DefaultCycleCosts :
    Instr.ld_SP_HL ∈ ([.ldh_atC_A, .ld_SP_HL] : List Instr) ∧ instrCost .ld_SP_HL = some 8 := by decide

theorem witness_StoresAtHL :
    (∃ r : Reg8, Instr.ld_atHL_L = .ld8 .atHL (.reg r) ∧ ram.l = ram.reg r) ∧ Instr.ld_atHL_n 0x99 = .ld8n .atHL 0x99 :=
  ⟨⟨.L, rfl, rfl⟩, rfl⟩

theorem witness_LoadsOfAFromAddress :
    (Instr.ldh_A_atn 0xFF, (0xFFFF : Word)) = (.ldh_A_atn 0xFF, BitVec.ofNat 16 (0xFF00 + (0xFF : Byte).toNat)) := by decide

theorem witness_StoresOfAToAddress :
    (Instr.ldh_atn_A 0x00, (0xFF00 : Word)) = (.ldh_atn_A 0x00, BitVec.ofNat 16 (0xFF00 + (0x00 : Byte).toNat)) := by decide

theorem witness_SteppingLoadsAndStores :
    (Instr.ld_A_atHLd, 65535) ∈ ([(.ld_A_atHLi, 1), (.ld_A_atHLd, 65535)] : List (Instr × Nat)) := by decide

theorem witness_StoreOfSP : ram.sp.toNat = (0xD0 : Byte).toNat * 256 + (0x00 : Byte).toNat := by decide

theorem witness_PushStoresPair : (ram.stackPair .AF).toNat = (0x01 : Byte).toNat * 256 + (0xB0 : Byte).toNat := by decide

theorem witness_PopLoadsPair :
    (0x7F : Byte) = ({ ram with sp := 0xC000 } : State).byteAt 0xC000 ∧
      (0x00 : Byte) = (({ ram with sp := 0xC000 } : State).readAt 0xC000).byteAt (0xC000 + 1) := by decide

/-- A stack at the bottom of the read/write store: the reference bus keeps both bytes and answers them. -/
theorem witness_PushPopRoundTrip :
    (ram.stackPair .AF).toNat = (0x01 : Byte).toNat * 256 + (0xB0 : Byte).toNat ∧
      (keepsWrite .ignore (0x8002 - 1) = true ∧ keepsWrite .ignore (0x8002 - 2) = true ∧ ram.f &&& 0x0F = 0) ∧
      (ram.bus.after [.write (0x8002 - 1) 0x01, .write (0x8002 - 2) 0xB0]).answer (0x8002 - 2) = 0xB0 ∧
      ((ram.bus.after [.write (0x8002 - 1) 0x01, .write (0x8002 - 2) 0xB0]).after [.read (0x8002 - 2) 0xB0]).answer
        (0x8002 - 1) = 0x01 := by decide

theorem witness_AddAndAdc :
    (AluSource .add (.add_A_H) ram 0xC0 ram ∧ (AluOp.add = .add ∧ 0 = 0)) ∧
      (AluSource .adc .adc_A_atHL ram 0x7F ram.afterReadAtHL ∧ (AluOp.adc = .adc ∧ 1 = ram.flagC.toNat)) ∧
      (AluSource .adc (.adc_A_n 0xFF) ram 0xFF ram ∧ (AluOp.adc = .adc ∧ 1 = ram.flagC.toNat)) :=
  ⟨⟨.inl ⟨.H, rfl, by decide, rfl⟩, rfl, rfl⟩, ⟨.inr (.inl ⟨rfl, by decide, rfl⟩), rfl, by decide⟩,
    ⟨.inr (.inr ⟨0xFF, rfl, rfl, rfl⟩), rfl, by decide⟩⟩

theorem witness_SubAndSbc :
    (AluSource .sub .sub_A ram 0x01 ram ∧ (AluOp.sub = .sub ∧ 0 = 0)) ∧
      (AluSource .sub (.sub_n 0x00) ram 0x00 ram ∧ (AluOp.sub = .sub ∧ 0 = 0)) ∧
      (AluSource .sbc .sbc_A_atHL ram 0x7F ram.afterReadAtHL ∧ (AluOp.sbc = .sbc ∧ 1 = ram.flagC.toNat)) :=
  ⟨⟨.inl ⟨.A, rfl, by decide, rfl⟩, rfl, rfl⟩, ⟨.inr (.inr ⟨0x00, rfl, rfl, rfl⟩), rfl, rfl⟩,
    ⟨.inr (.inl ⟨rfl, by decide, rfl⟩), rfl, by decide⟩⟩

theorem witness_CompareKeepsA :
    AluSource .cp .cp_A ram 0x01 ram ∧ AluSource .cp .cp_atHL ram 0x7F ram.afterReadAtHL ∧
      AluSource .cp (.cp_n 0x40) ram 0x40 ram :=
  ⟨.inl ⟨.A, rfl, by decide, rfl⟩, .inr (.inl ⟨rfl, by decide, rfl⟩), .inr (.inr ⟨0x40, rfl, rfl, rfl⟩)⟩

theorem witness_LogicOperations :
    (AluSource .and .and_B ram 0x00 ram ∧ (AluOp.and = .and ∧ and = and ∧ true = true)) ∧
      (AluSource .xor .xor_atHL ram 0x7F ram.afterReadAtHL ∧ (AluOp.xor = .xor ∧ xor = xor ∧ false = false)) ∧
      (AluSource .or (.or_n 0x80) ram 0x80 ram ∧ (AluOp.or = .or ∧ or = or ∧ false = false)) :=
  ⟨⟨.inl ⟨.B, rfl, by decide, rfl⟩, rfl, rfl, rfl⟩, ⟨.inr (.inl ⟨rfl, by decide, rfl⟩), rfl, rfl, rfl⟩,
    ⟨.inr (.inr ⟨0x80, rfl, rfl, rfl⟩), rfl, rfl, rfl⟩⟩

theorem witness_IncDecAtHL : (0x7F : Byte) = ram.byteAt ram.hl := by decide

/-- The four corrections of DAA, each at the edge of its range. -/
theorem witness_DecimalAdjust :
    0 = correctionValue 0x99 false false false ∧ 0x06 = correctionValue 0x0A false false false ∧
      0x60 = correctionValue 0xA0 false false false ∧ 0x66 = correctionValue 0x9A false false false ∧
      0 = correctionValue 0xFF true false false ∧ 0x66 = correctionValue 0x00 true true true := by decide

theorem witness_DecimalAdjustAddsDecimals :
    IsBcd ({ ram with a := 0x99 } : State).a ∧ IsBcd (0x99 : Byte) ∧ IsBcd (0x00 : Byte) := by
  unfold IsBcd
  decide

theorem witness_AccumulatorRotates :
    (Instr.rra, RotKind.rr) ∈
      ([(.rlca, .rlc), (.rrca, .rrc), (.rla, .rl), (.rra, .rr)] : List (Instr × RotKind)) := by decide

theorem witness_BitResetsAndSets :
    (Instr.res = Instr.res ∧ false = false) ∧ (Instr.set = Instr.set ∧ true = true) := ⟨⟨rfl, rfl⟩, rfl, rfl⟩

/-- Every condition holds in one state and fails in another. -/
theorem witness_AbsoluteJumps :
    (State.reset.CondTrue .Z ∧ State.reset.CondTrue .C ∧ ¬ State.reset.CondTrue .NZ ∧ ¬ State.reset.CondTrue .NC) ∧
      ({ State.reset with f := 0x00 } : State).CondTrue .NZ ∧ ({ State.reset with f := 0x00 } : State).CondTrue .NC ∧
      ¬ ({ State.reset with f := 0x00 } : State).CondTrue .Z ∧ ¬ ({ State.reset with f := 0x00 } : State).CondTrue .C := by
  unfold State.CondTrue
  decide

theorem witness_RelativeJumps :
    (0x017F : Word).toNat =
        (ram.pc.toNat + (if (0x7F : Byte).toNat < 0x80 then (0x7F : Byte).toNat else (0x7F : Byte).toNat + 0xFF00)) % 65536 ∧
      (0x0080 : Word).toNat =
        (ram.pc.toNat + (if (0x80 : Byte).toNat < 0x80 then (0x80 : Byte).toNat else (0x80 : Byte).toNat + 0xFF00)) % 65536 ∧
      ram.CondTrue .Z ∧ ¬ ram.CondTrue .NZ := by
  unfold State.CondTrue
  decide

theorem witness_CallsAndRestarts :
    ram.pc.toNat = (0x01 : Byte).toNat * 256 + (0x00 : Byte).toNat ∧
      (∃ k : Cond, ram.CondTrue k ∧ (Instr.call_Z_nn 0xFFFF, (0xFFFF : Word)) = (.callIf k 0xFFFF, 0xFFFF)) ∧
      (∃ n : Fin 8, (Instr.rst_38, (0x0038 : Word)) = (.rst n, BitVec.ofNat 16 (8 * n.val))) ∧ ¬ ram.CondTrue .NC :=
  ⟨by decide, ⟨.Z, by unfold State.CondTrue; decide, rfl⟩, ⟨7, rfl⟩, by unfold State.CondTrue; decide⟩

theorem witness_Returns :
    (0x7F : Byte) = ({ ram with sp := 0xC000 } : State).byteAt 0xC000 ∧
      (0x00 : Byte) = (({ ram with sp := 0xC000 } : State).readAt 0xC000).byteAt (0xC000 + 1) ∧
      (0x007F : Word).toNat = (0x00 : Byte).toNat * 256 + (0x7F : Byte).toNat ∧
      ({ ram with sp := 0xC000 } : State).CondTrue .C ∧ ¬ ({ ram with sp := 0xC000 } : State).CondTrue .NC := by
  unfold State.CondTrue
  decide

/-- The reference bus, which the memory clauses of the statements are about. -/
theorem witness_MemoryClauses : ∃ m, ram.bus = .flat .ignore m := ⟨_, rfl⟩

end Sys2Proof.Tests
end

namespace Sys2Proof.Machine

/-! The stack primitives (O22) -/

/-- A word is the join of the two bytes that make up its number. -/
theorem eq_joinBytes {v : Word} {hi lo : Byte} (h : v.toNat = hi.toNat * 256 + lo.toNat) : v = joinBytes hi lo :=
  BitVec.eq_of_toNat_eq (h.trans (joinBytes_toNat hi lo).symm)

/-- A pop only reads. -/
theorem memoryKept_pop16 (s : State) : MemoryKept s (pop16 s).2 := by
  intro policy m hb x
  simp [State.byteAt, hb]

/-- Settles O22: `push16_spec` and `pop16_spec`, with the pushed word taken apart into the bytes of its number. -/
theorem stackPrimitives : Obligations.StackPrimitives := by
  intro s v hi lo hv
  obtain ⟨hpush, hmem⟩ := push16_spec v s
  rw [eq_joinBytes hv, hiByte_joinBytes, loByte_joinBytes] at hpush hmem
  rw [eq_joinBytes hv]
  refine ⟨hpush, hmem, ?_⟩
  rintro _ _ rfl rfl
  exact ⟨by rw [pop16_spec, joinBytes_toNat], by rw [pop16_spec], memoryKept_pop16 s⟩

/-! Every instruction completes (O5) -/

/-- The operation that takes the decode fault belongs to UNDEFINED alone. -/
theorem instrOperation_eq_undefinedOpcode_iff (i : Instr) (op : Byte) :
    instrOperation i = .undefinedOpcode op ↔ i = .undefined op := by
  constructor
  · intro h
    cases i <;> cases h
    rfl
  · rintro rfl
    rfl

/-- Every operation answers a next state: a change within the frame of two bus transactions, and then at most a write of
the latches and the outcome. The fault latch ends set only where it was set or by an undefined opcode. -/
theorem Operation.run_frame_latches (o : Operation) (s : State) :
    ∃ (t : State) (halted ime faulted : Bool) (result : StepResult),
      o.run s = .next { t with halted := halted, ime := ime, faulted := faulted, result := result } ∧ Frame 2 s t ∧
        (faulted = true ↔ s.faulted = true ∨ ∃ op, o = .undefinedOpcode op) := by
  have hs : Frame 2 s s := (Frame.refl s).mono (by omega)
  rcases o.run_cases s with ⟨hl, t, hr, hf⟩ | ⟨rfl, hr⟩ | ⟨v, rfl, hr⟩ | ⟨op, rfl, hr⟩ | ⟨rfl, hr⟩
  · refine ⟨t, _, _, _, _, hr, hf, ?_⟩
    obtain ⟨-, -, hfault, -⟩ := hf.rest
    rw [hfault]
    refine ⟨.inl, ?_⟩
    rintro (h | ⟨op, rfl⟩)
    · exact h
    · cases hl
  · exact ⟨s, _, _, _, _, hr, hs, by simp⟩
  · exact ⟨s, _, _, _, _, hr, hs, by simp⟩
  · exact ⟨s, _, _, _, _, hr, hs, by simp⟩
  · exact ⟨popPC s, _, _, _, _, hr, frame_popPC s, by simp [popPC]⟩

/-- A byte of the reference bus that differs once transactions are done was written by one of them. -/
theorem write_mem_of_byteAt_changed {s t : State} {evs : List BusEvent} {policy : RomWrite} {m : Memory} {x : Word}
    (ht : t.bus = s.bus.after evs) (hs : s.bus = .flat policy m) (hx : t.byteAt x ≠ s.byteAt x) :
    ∃ v : Byte, .write x v ∈ evs := by
  simp only [State.byteAt, ht, hs] at hx
  exact Bus.answer_changed hx

/-- Settles O5: `Operation.run_frame_latches`, carried to `exec` by `exec_eq_run`. -/
theorem everyInstructionCompletes : Obligations.EveryInstructionCompletes := by
  intro i s
  obtain ⟨t, _, _, _, _, hr, hframe, hfault⟩ := (instrOperation i).run_frame_latches s
  obtain ⟨evs, hlog, hlen, hbus⟩ := hframe.log
  obtain ⟨-, -, -, hcycles, hhost, -⟩ := hframe.rest
  simp only [instrOperation_eq_undefinedOpcode_iff] at hfault
  exact ⟨_, (exec_eq_run i s).trans hr,
    ⟨evs, hlog, hlen, hbus, fun _ _ hs _ hx => write_mem_of_byteAt_changed (t := t) hbus hs hx⟩,
    hframe.lowNibble, hfault, hcycles, hhost⟩

end Sys2Proof.Machine

namespace Sys2Proof.Machine

/-! Reset and the pairs (O4, O9, O20, O21) -/

/-- Settles O4: the reset bus is canonical (`Bus.wf_reset`); the other parts are fields of `State.reset`. -/
theorem resetMeetsInvariant : Obligations.ResetMeetsInvariant := ⟨⟨Bus.wf_reset, rfl⟩, ⟨rfl, rfl⟩, rfl⟩

/-- Settles O9: `step_faulted`, and what `State.resetCore` writes. -/
theorem faultedCoreIsStuckUntilReset : Obligations.FaultedCoreIsStuckUntilReset :=
  fun _ h => ⟨step_faulted h, rfl, rfl⟩

/-- Settles O20: the values are read off `State.reset`. -/
theorem resetRegisterValues : Obligations.ResetRegisterValues := by
  unfold Obligations.ResetRegisterValues
  decide

/-- A mask over a word masks its two bytes. -/
theorem joinBytes_and (hi lo hi' lo' : Byte) :
    joinBytes hi lo &&& joinBytes hi' lo' = joinBytes (hi &&& hi') (lo &&& lo') := BitVec.and_append

/-- Writing AF keeps all of the word but the low nibble (10_state.md R22, R23). -/
theorem af_setAF (s : State) (w : Word) : (s.setAF w).af = w &&& 0xFFF0 := by
  calc (s.setAF w).af = joinBytes (hiByte w &&& 0xFF) (loByte w &&& 0xF0) :=
        congrArg (joinBytes · _) BitVec.and_allOnes.symm
    _ = joinBytes (hiByte w) (loByte w) &&& joinBytes 0xFF 0xF0 := (joinBytes_and ..).symm
    _ = w &&& 0xFFF0 := by rw [joinBytes_hiByte_loByte]; rfl

/-- Settles O21: a pair is the join of its two registers, whose number is `joinBytes_toNat`. -/
theorem pairsAreViews : Obligations.PairsAreViews := by
  intro s w v
  exact
    ⟨joinBytes_toNat .., joinBytes_toNat .., joinBytes_toNat .., joinBytes_toNat ..,
      rfl, bc_setBC s w, rfl, de_setDE s w, rfl, hl_setHL s w, rfl, af_setAF s w,
      joinBytes_toNat .., joinBytes_toNat .., joinBytes_toNat .., joinBytes_toNat .., joinBytes_toNat ..,
      joinBytes_toNat .., joinBytes_toNat .., joinBytes_toNat ..⟩

/-! The outcome of a step: `step_cases` with the operation's next state, which always exists -/

/-- The bytes of the instruction at PC. -/
def State.instrBytes (b : State) : List Byte := b.bytesAtPC.take (instrLength (b.byteAt b.pc))

/-- The state in which the instruction at PC runs: its bytes read, PC past them. -/
def State.ready (b : State) : State := b.fetched (instrLength (b.byteAt b.pc))

/-- The first byte of the instruction at PC is the byte at PC. -/
theorem instrBytes_eq_cons (b : State) : ∃ rest, b.instrBytes = b.byteAt b.pc :: rest := by
  obtain ⟨b1, b2, hb⟩ := bytesAtPC_eq b
  rw [State.instrBytes, hb]
  rcases instrLength_cases (b.byteAt b.pc) with h | h | h <;> simp [h]

/-- A running core decodes the bytes at PC, and the operation they name answers the next state. -/
theorem step_of_running {s : State} (h : s.Running) :
    ∃ (i : Instr) (x : State), decode (beginStep s).instrBytes = .ok (i, []) ∧
      (instrOperation i).run (beginStep s).ready = .next x ∧
      step s = .next (recordCycles (beginStep s).instrBytes x) := by
  obtain ⟨i, hi, hs⟩ := step_running h rfl
  obtain ⟨x, _, _, _, _, hx, -⟩ := (instrOperation i).run_frame_latches (beginStep s).ready
  exact ⟨i, _, hi, hx, hs.trans (congrArg (mapNext _) hx)⟩

/-- Everything a step can end in. -/
theorem step_outcomes (s : State) :
    (s.faulted = true ∧ step s = .fault .stuckAfterDecodeFault) ∨
    (s.faulted = false ∧ s.halted = true ∧ step s = .next { beginStep s with result := .ok 4 }) ∨
    (s.Running ∧ ∃ (i : Instr) (x : State), decode (beginStep s).instrBytes = .ok (i, []) ∧
      (instrOperation i).run (beginStep s).ready = .next x ∧
      step s = .next (recordCycles (beginStep s).instrBytes x)) := by
  rcases step_cases s rfl with hstuck | hidle | ⟨hrun, -⟩
  · exact .inl hstuck
  · exact .inr (.inl hidle)
  · exact .inr (.inr ⟨hrun, step_of_running hrun⟩)

/-! The invariant (O3) -/

/-- The host's change keeps the invariant. -/
theorem State.Inv.beginStep {s : State} (h : s.Inv) : (beginStep s).Inv := ⟨Bus.wf_hostChange _ h.1, h.2⟩

/-- Bus transactions and changes of registers within a frame keep the invariant. -/
theorem Frame.inv {k : Nat} {s t : State} (h : Frame k s t) (hs : s.Inv) : t.Inv := by
  obtain ⟨evs, -, -, hbus⟩ := h.log
  exact ⟨hbus ▸ Bus.wf_after evs hs.1, h.lowNibble hs.2⟩

/-- A fetch of `k` bytes is within the frame of `k` transactions. -/
theorem frame_fetched (s : State) (k : Nat) : Frame k s (s.fetched k) := by
  have h := (frame_transact s (s.fetchReads k)).trans (frame_pc _ (s.pc + BitVec.ofNat 16 k))
  rwa [State.fetchReads, readEvents_length] at h

/-- Every operation keeps the invariant: it works within a frame, and neither a latch nor the outcome is part of it. -/
theorem Operation.run_keeps_inv (o : Operation) {s t : State} (hs : s.Inv) (h : o.run s = .next t) : t.Inv := by
  obtain ⟨u, _, _, _, _, hr, hframe, -⟩ := o.run_frame_latches s
  cases hr.symm.trans h
  exact hframe.inv hs

/-- Returning a cost keeps the invariant. -/
theorem inv_recordCycles {s : State} (bytes : List Byte) (h : s.Inv) : (recordCycles bytes s).Inv := by
  simpa [State.Inv] using h

/-- Settles O3: the host's change, the fetch, the operation and the count each keep the invariant. -/
theorem stepKeepsInvariant : Obligations.StepKeepsInvariant := by
  intro s t hs hstep
  rcases step_outcomes s with ⟨-, h⟩ | ⟨-, -, h⟩ | ⟨-, i, x, -, hx, h⟩
  · cases h.symm.trans hstep
  · cases h.symm.trans hstep
    exact hs.beginStep
  · cases h.symm.trans hstep
    exact inv_recordCycles _ ((instrOperation i).run_keeps_inv ((frame_fetched _ _).inv hs.beginStep) hx)

/-! Which opcodes touch a latch (O12, O13) -/

/-- The operation of an opcode that touches a latch or the step's outcome, if it has one: HALT, DI, EI, RETI and the
undefined opcodes. -/
def latchingOperation (op : Byte) : Option Operation :=
  if op = 0x76 then some .enterHalt
  else if op = 0xF3 then some (.writeIme false)
  else if op = 0xFB then some (.writeIme true)
  else if op = 0xD9 then some .returnFromInterrupt
  else if op ∈ undefinedOpcodes then some (.undefinedOpcode op)
  else none

/-- Every opcode is one of the four latching ones, or undefined, or latches nothing. -/
theorem latchingOperation_cases : ∀ op : Byte,
    (op = 0x76 ∧ latchingOperation op = some .enterHalt) ∨
    (op = 0xF3 ∧ latchingOperation op = some (.writeIme false)) ∨
    (op = 0xFB ∧ latchingOperation op = some (.writeIme true)) ∨
    (op = 0xD9 ∧ latchingOperation op = some .returnFromInterrupt) ∨
    (op ≠ 0x76 ∧ op ≠ 0xF3 ∧ op ≠ 0xFB ∧ op ≠ 0xD9 ∧
      ((op ∈ undefinedOpcodes ∧ latchingOperation op = some (.undefinedOpcode op)) ∨
        (op ∉ undefinedOpcodes ∧ latchingOperation op = none))) := by decide

/-- The latching operation of an entry that needs no further byte. -/
def entryLatchingOperation (x : Entry) : Option Operation :=
  match x with
  | .op i => Option.guard Operation.latching (instrOperation i)
  | .opN8 _ | .opN16 _ | .escape => none

theorem entryLatchingOperation_primaryEntry :
    ∀ op : Byte, entryLatchingOperation (primaryEntry op) = latchingOperation op := by decide

/-- An entry with an immediate operand makes no latching instruction, whatever the operand. -/
def OperandsLatchNothing (x : Entry) : Prop :=
  match x with
  | .opN8 k => ∀ n, (instrOperation (k n)).latching = false
  | .opN16 k => ∀ nn, (instrOperation (k nn)).latching = false
  | .op _ | .escape => True

theorem operandsLatchNothing_quadrant0 (y z : Fin 8) : OperandsLatchNothing (quadrant0 y z) :=
  match z, y with
  | 0, 0 | 0, 2 => trivial
  | 0, 1 | 0, 3 | 0, 4 | 0, 5 | 0, 6 | 0, 7 => fun _ => rfl
  | 1, 0 | 1, 2 | 1, 4 | 1, 6 => fun _ => rfl
  | 1, 1 | 1, 3 | 1, 5 | 1, 7 => trivial
  | 2, 0 | 2, 1 | 2, 2 | 2, 3 | 2, 4 | 2, 5 | 2, 6 | 2, 7 => trivial
  | 3, 0 | 3, 1 | 3, 2 | 3, 3 | 3, 4 | 3, 5 | 3, 6 | 3, 7 => trivial
  | 4, _ | 5, _ => trivial
  | 6, 0 | 6, 1 | 6, 2 | 6, 3 | 6, 4 | 6, 5 | 6, 6 | 6, 7 => fun _ => rfl
  | 7, 0 | 7, 1 | 7, 2 | 7, 3 | 7, 4 | 7, 5 | 7, 6 | 7, 7 => trivial

theorem operandsLatchNothing_quadrant3 (op : Byte) (y z : Fin 8) : OperandsLatchNothing (quadrant3 op y z) :=
  match z, y with
  | 0, 0 | 0, 1 | 0, 2 | 0, 3 => trivial
  | 0, 4 | 0, 5 | 0, 6 | 0, 7 => fun _ => rfl
  | 1, 0 | 1, 1 | 1, 2 | 1, 3 | 1, 4 | 1, 5 | 1, 6 | 1, 7 => trivial
  | 2, 0 | 2, 1 | 2, 2 | 2, 3 | 2, 5 | 2, 7 => fun _ => rfl
  | 2, 4 | 2, 6 => trivial
  | 3, 0 => fun _ => rfl
  | 3, 1 | 3, 2 | 3, 3 | 3, 4 | 3, 5 | 3, 6 | 3, 7 => trivial
  | 4, 0 | 4, 1 | 4, 2 | 4, 3 => fun _ => rfl
  | 4, 4 | 4, 5 | 4, 6 | 4, 7 => trivial
  | 5, 0 | 5, 2 | 5, 3 | 5, 4 | 5, 5 | 5, 6 | 5, 7 => trivial
  | 5, 1 => fun _ => rfl
  | 6, 0 | 6, 1 | 6, 2 | 6, 3 | 6, 4 | 6, 5 | 6, 6 | 6, 7 => fun _ => rfl
  | 7, _ => trivial

theorem operandsLatchNothing_primaryEntry (op : Byte) : OperandsLatchNothing (primaryEntry op) := by
  unfold primaryEntry
  split
  · exact operandsLatchNothing_quadrant0 _ _
  · trivial
  · trivial
  · exact operandsLatchNothing_quadrant3 _ _ _

theorem latching_extendedInstr : ∀ op2 : Byte, (instrOperation (extendedInstr op2)).latching = false := by decide

/-- The bytes after the opcode do not decide whether an instruction latches. -/
theorem guard_latching_of_complete {x : Entry} {op : Byte} {rest rest' : List Byte} {i : Instr}
    (hx : OperandsLatchNothing x) (h : x.complete op rest = .ok (i, rest')) :
    Option.guard Operation.latching (instrOperation i) = entryLatchingOperation x := by
  have hnone {o : Operation} (ho : o.latching = false) : Option.guard Operation.latching o = none :=
    Option.guard_eq_none_iff.mpr ho
  match x, rest, h with
  | .op _, _, rfl => rfl
  | .opN8 _, n :: _, rfl => exact hnone (hx n)
  | .opN16 _, lo :: hi :: _, rfl => exact hnone (hx (joinBytes hi lo))
  | .escape, op2 :: _, rfl => exact hnone (latching_extendedInstr op2)

/-- A decoded instruction has a latching operation exactly if its opcode has one, and it is that one. -/
theorem guard_latching_of_decode {b : State} {i : Instr} (h : decode b.instrBytes = .ok (i, [])) :
    Option.guard Operation.latching (instrOperation i) = latchingOperation (b.byteAt b.pc) := by
  obtain ⟨rest, hrest⟩ := instrBytes_eq_cons b
  rw [hrest] at h
  exact (guard_latching_of_complete (operandsLatchNothing_primaryEntry _) h).trans
    (entryLatchingOperation_primaryEntry _)

/-- The latches of `t`, which comes from `s` by running the instruction of opcode `op`: HALT alone halts, EI, RETI and DI
alone write IME, the undefined opcodes alone fault (10_state.md R26, R27; 60_exceptions.md R271, R273). -/
structure LatchesAfter (op : Byte) (s t : State) : Prop where
  halted : t.halted = true ↔ op = 0x76
  ime : t.ime = if op = 0xFB ∨ op = 0xD9 then true else if op = 0xF3 then false else s.ime
  faulted : t.faulted = true ↔ op ∈ undefinedOpcodes

/-- What the operation of an opcode does to the latches of a running core, by the opcodes of `latchingOperation`. -/
theorem Operation.run_latches (o : Operation) {op : Byte} {s t : State}
    (h : Option.guard Operation.latching o = latchingOperation op) (hs : s.Running) (hr : o.run s = .next t) :
    LatchesAfter op s t := by
  obtain ⟨hh, hf⟩ := hs
  rcases latchingOperation_cases op with ⟨rfl, hl⟩ | ⟨rfl, hl⟩ | ⟨rfl, hl⟩ | ⟨rfl, hl⟩ | ⟨h1, h2, h3, h4, hrest⟩
  · obtain ⟨rfl, -⟩ := Option.guard_eq_some_iff.mp (h.trans hl)
    cases hr
    exact ⟨iff_of_true rfl rfl, rfl, iff_of_false (ne_true_of_eq_false hf) (by decide)⟩
  · obtain ⟨rfl, -⟩ := Option.guard_eq_some_iff.mp (h.trans hl)
    cases hr
    exact ⟨iff_of_false (ne_true_of_eq_false hh) (by decide), rfl,
      iff_of_false (ne_true_of_eq_false hf) (by decide)⟩
  · obtain ⟨rfl, -⟩ := Option.guard_eq_some_iff.mp (h.trans hl)
    cases hr
    exact ⟨iff_of_false (ne_true_of_eq_false hh) (by decide), rfl,
      iff_of_false (ne_true_of_eq_false hf) (by decide)⟩
  · obtain ⟨rfl, -⟩ := Option.guard_eq_some_iff.mp (h.trans hl)
    cases hr
    exact ⟨iff_of_false (ne_true_of_eq_false hh) (by decide), rfl,
      iff_of_false (ne_true_of_eq_false hf) (by decide)⟩
  · have hime : s.ime = if op = 0xFB ∨ op = 0xD9 then true else if op = 0xF3 then false else s.ime := by
      rw [if_neg (not_or.mpr ⟨h3, h4⟩), if_neg h2]
    rcases hrest with ⟨hund, hl⟩ | ⟨hdef, hl⟩
    · obtain ⟨rfl, -⟩ := Option.guard_eq_some_iff.mp (h.trans hl)
      cases hr
      exact ⟨iff_of_false (ne_true_of_eq_false hh) h1, hime, iff_of_true rfl hund⟩
    · obtain ⟨u, hu, hframe⟩ := o.run_frame s (Option.guard_eq_none_iff.mp (h.trans hl))
      cases hu.symm.trans hr
      obtain ⟨hhalted, himeKept, hfaulted, -⟩ := hframe.rest
      exact ⟨iff_of_false (ne_true_of_eq_false (hhalted.trans hh)) h1, himeKept.trans hime,
        iff_of_false (ne_true_of_eq_false (hfaulted.trans hf)) hdef⟩

/-- What a step that runs an instruction does to the latches. -/
theorem step_latches {s t : State} (h : s.Running) (hstep : step s = .next t) :
    LatchesAfter ((beginStep s).byteAt s.pc) s t := by
  obtain ⟨i, x, hi, hx, hs⟩ := step_of_running h
  cases hs.symm.trans hstep
  obtain ⟨hhalted, hime, hfaulted⟩ :=
    (instrOperation i).run_latches (s := (beginStep s).ready) (guard_latching_of_decode hi) h hx
  exact ⟨by rwa [recordCycles_halted], by rwa [recordCycles_ime], by rwa [recordCycles_faulted]⟩

/-- Settles O12, by `step_latches`. -/
theorem onlyHaltSetsHalted : Obligations.OnlyHaltSetsHalted := fun _ _ h hstep => (step_latches h hstep).halted

/-- Settles O13, by `step_latches`. -/
theorem onlyEiDiRetiWriteIme : Obligations.OnlyEiDiRetiWriteIme := by
  rintro s t _ h rfl hstep
  exact (step_latches h hstep).ime

/-! What no rule reads (O14): every part of a step commutes with a change of the unread fields -/

/-- `s` with other values in the fields that no rule reads. -/
def State.withUnread (s : State) (ime : Bool) (cycles : CycleTable) (result : StepResult) : State :=
  { s with ime := ime, cycles := cycles, result := result }

section
variable (s : State) (ime : Bool) (cycles : CycleTable) (result : StepResult)

theorem readSel_withUnread (i : Sel8) :
    readSel i (s.withUnread ime cycles result) = ((readSel i s).1, (readSel i s).2.withUnread ime cycles result) := by
  cases i <;> rfl

theorem writeSel_withUnread (i : Sel8) (v : Byte) :
    writeSel i v (s.withUnread ime cycles result) = (writeSel i v s).withUnread ime cycles result := by
  rcases i with ⟨⟨⟩⟩ | _ <;> rfl

theorem instrBytes_withUnread : (s.withUnread ime cycles result).instrBytes = s.instrBytes :=
  congrArg (fun log => (log.map BusEvent.byte).take (instrLength (s.byteAt s.pc))) (readEvents_congr 3 s.pc rfl)

theorem ready_withUnread : (s.withUnread ime cycles result).ready = s.ready.withUnread ime cycles result := by
  have h (k : Nat) : (s.withUnread ime cycles result).fetchReads k = s.fetchReads k := readEvents_congr k s.pc rfl
  simp only [State.ready, State.fetched, h]
  rfl

theorem rotateSelector_withUnread (k : RotKind) (i : Sel8) :
    rotateSelector k i (s.withUnread ime cycles result) =
      mapNext (State.withUnread · ime cycles result) (rotateSelector k i s) := by
  rcases i with ⟨⟨⟩⟩ | _ <;> rfl

theorem testBit_withUnread (b : Fin 8) (i : Sel8) :
    testBit b i (s.withUnread ime cycles result) =
      mapNext (State.withUnread · ime cycles result) (testBit b i s) := by
  cases i <;> rfl

theorem resetBit_withUnread (b : Fin 8) (i : Sel8) :
    resetBit b i (s.withUnread ime cycles result) =
      mapNext (State.withUnread · ime cycles result) (resetBit b i s) := by
  rcases i with ⟨⟨⟩⟩ | _ <;> rfl

theorem setBit_withUnread (b : Fin 8) (i : Sel8) :
    setBit b i (s.withUnread ime cycles result) =
      mapNext (State.withUnread · ime cycles result) (setBit b i s) := by
  rcases i with ⟨⟨⟩⟩ | _ <;> rfl

theorem extendedEntry_withUnread (op2 : Byte) :
    extendedEntry op2 (s.withUnread ime cycles result) =
      mapNext (State.withUnread · ime cycles result) (extendedEntry op2 s) := by
  unfold extendedEntry
  split
  · exact rotateSelector_withUnread ..
  · exact testBit_withUnread ..
  · exact resetBit_withUnread ..
  · exact setBit_withUnread ..

/-- The two ways of a conditional instruction, each with the change. -/
theorem next_ite_withUnread (p : Prop) [Decidable p] (t u : State) :
    (.next (if p then t.withUnread ime cycles result else u.withUnread ime cycles result) : Outcome) =
      mapNext (State.withUnread · ime cycles result) (.next (if p then t else u)) :=
  congrArg Host.Outcome.next (apply_ite (State.withUnread · ime cycles result) p t u).symm

/-- An operation reads none of the unread fields. It may write IME; only the decode fault writes the outcome, and is left
out here. -/
theorem Operation.run_withUnread (o : Operation) (h : ∀ op, o ≠ .undefinedOpcode op) :
    ∃ ime', o.run (s.withUnread ime cycles result) = mapNext (State.withUnread · ime' cycles result) (o.run s) := by
  cases o with
  | writeIme v => exact ⟨v, rfl⟩
  | returnFromInterrupt => exact ⟨true, rfl⟩
  | undefinedOpcode op => exact absurd rfl (h op)
  | copyByte dst src =>
    refine ⟨ime, congrArg Host.Outcome.next ?_⟩
    rw [readSel_withUnread, writeSel_withUnread]
  | loadImmediate dst n => exact ⟨ime, congrArg Host.Outcome.next (writeSel_withUnread ..)⟩
  | aluSelector o src => exact ⟨ime, by cases src <;> rfl⟩
  | incrementByte i => exact ⟨ime, by rcases i with ⟨⟨⟩⟩ | _ <;> rfl⟩
  | decrementByte i => exact ⟨ime, by rcases i with ⟨⟨⟩⟩ | _ <;> rfl⟩
  | loadPair p nn => exact ⟨ime, by cases p <;> rfl⟩
  | addToPair p delta => exact ⟨ime, by cases p <;> rfl⟩
  | popPair p => exact ⟨ime, by cases p <;> rfl⟩
  | rotateSelector k i => exact ⟨ime, rotateSelector_withUnread ..⟩
  | testBit b i => exact ⟨ime, testBit_withUnread ..⟩
  | resetBit b i => exact ⟨ime, resetBit_withUnread ..⟩
  | setBit b i => exact ⟨ime, setBit_withUnread ..⟩
  | extendedEntry op2 => exact ⟨ime, extendedEntry_withUnread ..⟩
  | jumpIf k nn => exact ⟨ime, next_ite_withUnread _ _ _ (s.condHolds k) { s with pc := nn } s⟩
  | jumpRelativeIf k e => exact ⟨ime, next_ite_withUnread _ _ _ (s.condHolds k) { s with pc := s.pc + sext16 e } s⟩
  | callIf k nn => exact ⟨ime, next_ite_withUnread _ _ _ (s.condHolds k) (pushPCAndJump nn s) s⟩
  | returnIf k => exact ⟨ime, next_ite_withUnread _ _ _ (s.condHolds k) (popPC s) s⟩
  | _ => exact ⟨ime, rfl⟩

end

/-- The undefined opcodes alone have the operation that takes the decode fault. -/
theorem latchingOperation_eq_undefinedOpcode_iff (op : Byte) :
    (∃ op', latchingOperation op = some (.undefinedOpcode op')) ↔ op ∈ undefinedOpcodes := by
  constructor
  · rintro ⟨op', h⟩
    rcases latchingOperation_cases op with
      ⟨-, hl⟩ | ⟨-, hl⟩ | ⟨-, hl⟩ | ⟨-, hl⟩ | ⟨-, -, -, -, ⟨hund, -⟩ | ⟨-, hl⟩⟩
    · cases hl.symm.trans h
    · cases hl.symm.trans h
    · cases hl.symm.trans h
    · cases hl.symm.trans h
    · exact hund
    · cases hl.symm.trans h
  · have hall : ∀ op : Byte, op ∈ undefinedOpcodes → latchingOperation op = some (.undefinedOpcode op) := by decide
    exact fun h => ⟨op, hall op h⟩

/-- The count of the instruction at PC (70_reset_and_hazards.md R298): an undefined opcode has none under any table, every
other one has one under every table. -/
theorem recordCycles_instrBytes (b : State) :
    (b.byteAt b.pc ∈ undefinedOpcodes ∧ ∀ s, recordCycles b.instrBytes s = s) ∨
      (b.byteAt b.pc ∉ undefinedOpcodes ∧ ∃ cost : CycleTable → Nat,
        ∀ s, recordCycles b.instrBytes s = { s with result := .ok (cost s.cycles) }) := by
  by_cases hesc : b.byteAt b.pc = Config.escapeCode
  · obtain ⟨b1, b2, hb⟩ := bytesAtPC_eq b
    have hbytes : b.instrBytes = [Config.escapeCode, b1] := by
      rw [State.instrBytes, hb, hesc]
      rfl
    exact .inr ⟨by rw [hesc]; decide, fun table => table.extendedCost b1, fun s => by rw [hbytes]; rfl⟩
  · obtain ⟨rest, hbytes⟩ := instrBytes_eq_cons b
    by_cases hund : b.byteAt b.pc ∈ undefinedOpcodes
    · exact .inl ⟨hund, fun s => by simp [recordCycles, cycleCost, hbytes, hesc, hund]⟩
    · exact .inr ⟨hund, fun table => table.primaryCost (b.byteAt b.pc),
        fun s => by simp [recordCycles, cycleCost, hbytes, hesc, hund]⟩

/-- No operation changes the cycle table. -/
theorem Operation.run_cycles (o : Operation) {s t : State} (h : o.run s = .next t) : t.cycles = s.cycles := by
  obtain ⟨u, _, _, _, _, hr, hframe, -⟩ := o.run_frame_latches s
  cases hr.symm.trans h
  obtain ⟨-, -, -, hcycles, -⟩ := hframe.rest
  exact hcycles

/-- Once a step has begun, two states that agree but for the unread fields differ in three of them: the log is empty. -/
theorem beginStep_of_agree {s u : State} (h : s.AgreeButUnread u) :
    beginStep u = (beginStep s).withUnread u.ime u.cycles u.result := by
  rw [h]
  rfl

/-- The other state fetches and runs the same instruction. -/
theorem step_running_of_agree {s u : State} {i : Instr} (h : s.Running) (hu : s.AgreeButUnread u)
    (hi : decode (beginStep s).instrBytes = .ok (i, [])) :
    step u =
      mapNext (recordCycles (beginStep s).instrBytes)
        ((instrOperation i).run ((beginStep s).ready.withUnread u.ime u.cycles u.result)) := by
  have hrun : u.Running := by rw [hu]; exact h
  obtain ⟨j, y, hj, hy, hstep⟩ := step_of_running hrun
  rw [beginStep_of_agree hu, instrBytes_withUnread] at hj hstep
  rw [beginStep_of_agree hu, ready_withUnread] at hy
  cases hj.symm.trans hi
  rw [hstep, hy]
  rfl

/-- A step that runs an instruction gives the same but for the unread fields. -/
theorem step_agree_of_running {s u t : State} (h : s.Running) (hu : s.AgreeButUnread u) (hstep : step s = .next t) :
    ∃ (ime : Bool) (r : StepResult),
      step u = .next { t with ime := ime, cycles := u.cycles, result := r } ∧
        (s.cycles = u.cycles → r = t.result) ∧
        ∀ (op : Byte) (addr : Word), t.result = .decodeFault op addr → r = t.result := by
  obtain ⟨i, x, hi, hx, hs⟩ := step_of_running h
  have hguard := guard_latching_of_decode hi
  have hsu := step_running_of_agree h hu hi
  cases hs.symm.trans hstep
  rcases recordCycles_instrBytes (beginStep s) with ⟨hund, hrec⟩ | ⟨hdef, cost, hrec⟩
  · obtain ⟨op, hop⟩ := (latchingOperation_eq_undefinedOpcode_iff _).mpr hund
    obtain ⟨ho, -⟩ := Option.guard_eq_some_iff.mp (hguard.trans hop)
    rw [ho] at hx hsu
    cases hx
    refine ⟨u.ime, _, ?_, fun _ => rfl, fun _ _ _ => rfl⟩
    rw [hsu, hrec]
    exact congrArg Host.Outcome.next (hrec _)
  · have hnot (op : Byte) (ho : instrOperation i = .undefinedOpcode op) : False :=
      hdef ((latchingOperation_eq_undefinedOpcode_iff _).mp
        ⟨op, hguard.symm.trans (Option.guard_eq_some_iff.mpr ⟨ho, by rw [ho]; rfl⟩)⟩)
    obtain ⟨ime, hime⟩ := (instrOperation i).run_withUnread (beginStep s).ready u.ime u.cycles u.result hnot
    have hcycles : x.cycles = s.cycles := (instrOperation i).run_cycles (s := (beginStep s).ready) hx
    rw [hx] at hime
    rw [hrec, hcycles]
    refine ⟨ime, .ok (cost u.cycles), ?_, fun hc => by rw [hc], fun _ _ hr => by cases hr⟩
    rw [hsu, hime]
    exact congrArg Host.Outcome.next (hrec _)

/-- Settles O14: `step_agree_of_running` for the step that runs an instruction; the halted and the stuck core read nothing
but their latches. -/
theorem imeAndOutputsGateNothing : Obligations.ImeAndOutputsGateNothing := by
  intro s u hu
  have hhalted : u.halted = s.halted := by rw [hu]
  have hfaulted : u.faulted = s.faulted := by rw [hu]
  rcases step_outcomes s with ⟨hf, h⟩ | ⟨hf, hh, h⟩ | ⟨hrun, i, x, -, -, h⟩
  · rw [h, step_faulted (hfaulted.trans hf)]
    exact ⟨fun _ ht => (by cases ht), fun _ hr => hr⟩
  · refine ⟨fun t ht => ⟨u.ime, .ok 4, ?_, ?_⟩, fun _ hr => by cases h.symm.trans hr⟩
    · rw [step_halted (hfaulted.trans hf) (hhalted.trans hh), beginStep_of_agree hu]
      cases h.symm.trans ht
      rfl
    · cases h.symm.trans ht
      exact ⟨fun _ => rfl, fun _ _ _ => rfl⟩
  · exact ⟨fun _ => step_agree_of_running hrun hu, fun _ hr => by cases h.symm.trans hr⟩

end Sys2Proof.Machine

namespace Sys2Proof.Machine

/-! Memory and the host's change (O7, O17, O18, O19) -/

/-- The reference bus answers with its store's byte (20_memory.md R66). -/
theorem byteAt_flat {s : State} {policy : RomWrite} {m : Memory} (hb : s.bus = .flat policy m) (x : Word) :
    s.byteAt x = Memory.read m x.toNat := by
  rw [State.byteAt, hb]
  rfl

/-- A read leaves the reference bus as it was (20_memory.md R59, R66). -/
theorem busRead_bus_flat {s : State} {policy : RomWrite} {m : Memory} (hb : s.bus = .flat policy m) (addr : Word) :
    (busRead addr s).2.bus = s.bus := by
  rw [busRead, readAt_bus, hb, Bus.after_read_flat, Bus.after_nil]

/-- Settles O19: `busRead` and `busWrite` are one transaction by definition, and `busWrite_spec` says what a write does to
the reference bus. -/
theorem flatBusReadsAndWrites : Obligations.FlatBusReadsAndWrites := by
  refine fun s addr v => ⟨rfl, rfl, fun policy m hb => ⟨byteAt_flat hb addr, busRead_bus_flat hb addr, ?_, fun x => ?_⟩⟩
  · rw [busWrite_bus, hb]
    exact Bus.after_flat policy m _
  · simpa only [keepsWrite_iff] using (busWrite_spec addr v s).2 policy m hb x

/-- Everything a step changes: from where the host has left the machine, at most five bus transactions and changes of
registers, three for the fetch and two for the operation; then at most a write of the latches and the outcome. -/
theorem step_frame_latches {s t : State} (hstep : step s = .next t) :
    ∃ (u : State) (halted ime faulted : Bool) (result : StepResult),
      t = { u with halted := halted, ime := ime, faulted := faulted, result := result } ∧
        Frame 5 (beginStep s) u := by
  rcases step_outcomes s with ⟨-, h⟩ | ⟨-, -, h⟩ | ⟨-, i, x, -, hx, h⟩
  · cases h.symm.trans hstep
  · cases h.symm.trans hstep
    exact ⟨beginStep s, _, _, _, _, rfl, (Frame.refl _).mono (by omega)⟩
  · cases h.symm.trans hstep
    obtain ⟨u, _, _, _, _, hr, hrun, -⟩ := (instrOperation i).run_frame_latches (beginStep s).ready
    cases hr.symm.trans hx
    have hlen := instrLength_cases ((beginStep s).byteAt (beginStep s).pc)
    exact ⟨u, _, _, _, _, recordCycles_eq _ _, ((frame_fetched (beginStep s) _).trans hrun).mono (by omega)⟩

/-- The bus a step ends with is the one its transactions leave, on top of the host's change (20_memory.md R51, R57). -/
theorem step_bus {s t : State} (hstep : step s = .next t) : t.bus = (beginStep s).bus.after t.busLog := by
  obtain ⟨u, _, _, _, _, rfl, hframe⟩ := step_frame_latches hstep
  obtain ⟨evs, hlog, -, hbus⟩ := hframe.log
  exact hbus.trans (congrArg _ hlog.symm)

/-- A step takes one of the host's changes off the list and leaves the cycle table. -/
theorem step_parameters {s t : State} (hstep : step s = .next t) :
    t.hostWrites = s.hostWrites.tail ∧ t.cycles = s.cycles := by
  obtain ⟨u, _, _, _, _, rfl, hframe⟩ := step_frame_latches hstep
  obtain ⟨-, -, -, hcycles, hhost, -⟩ := hframe.rest
  exact ⟨hhost, hcycles⟩

/-- The reference bus is still the reference bus after a step, under its policy. -/
theorem step_bus_flat {s t : State} {policy : RomWrite} {m : Memory} (hb : (beginStep s).bus = .flat policy m)
    (hstep : step s = .next t) : ∃ m', t.bus = .flat policy m' := by
  rw [step_bus hstep, hb]
  exact Bus.after_flat policy m _

/-- Settles O17: `step_bus`, whose transactions include a write for every byte that changed. -/
theorem memoryChangesOnlyByBusWrites : Obligations.MemoryChangesOnlyByBusWrites := by
  rintro s _ t rfl hstep
  exact ⟨step_bus hstep, fun _ _ hb =>
    ⟨step_bus_flat hb hstep, fun _ hx => write_mem_of_byteAt_changed (step_bus hstep) hb hx⟩⟩

/-- Settles O18: `step_bus`, whose transactions change no byte of the cartridge under `ignore`. -/
theorem cartridgeIsReadOnlyUnderIgnore : Obligations.CartridgeIsReadOnlyUnderIgnore := by
  rintro s _ t m rfl hb hstep
  refine ⟨step_bus_flat hb hstep, fun x hx => ?_⟩
  rw [State.byteAt, State.byteAt, step_bus hstep, hb]
  exact Bus.answer_ignore hx

/-- Bytes stored in two parts are stored one part after the other. -/
theorem Memory.store_append (m : Memory) (cells1 cells2 : List (Word × Byte)) :
    Memory.store m (cells1 ++ cells2) = Memory.store (Memory.store m cells1) cells2 := by
  induction cells1 generalizing m with
  | nil => rfl
  | cons cell rest ih => exact ih _

/-- An address that is not listed reads as before. -/
theorem Memory.read_store_of_not_mem_map {m : Memory} {cells : List (Word × Byte)} {x : Word}
    (h : x ∉ cells.map Prod.fst) : Memory.read (Memory.store m cells) x.toNat = Memory.read m x.toNat :=
  Memory.read_store_of_not_mem fun _ hc he => h (List.mem_map.mpr ⟨_, hc, he⟩)

/-- The last byte listed for an address is the one that stands there. -/
theorem Memory.read_store_last {m : Memory} {before after : List (Word × Byte)} {x : Word} {v : Byte}
    (h : x ∉ after.map Prod.fst) : Memory.read (Memory.store m (before ++ (x, v) :: after)) x.toNat = v := by
  rw [Memory.store_append, Memory.store, Memory.read_store_of_not_mem_map h, Memory.read_write, if_pos rfl]

/-- A bus other than the reference one receives the host's change (20_memory.md R69). -/
theorem Bus.hostChange_other {id : Nat} {inputs : List BusInput} {cells : List (Word × Byte)} (h : cells ≠ []) :
    (Bus.other id inputs).hostChange cells = .other id (inputs ++ [.hostChange cells]) := by
  cases cells with
  | nil => exact absurd rfl h
  | cons cell rest => rfl

/-- On the reference bus the host's change before a step is a store into memory. -/
theorem beginStep_bus_flat {s : State} {policy : RomWrite} {m : Memory} (hb : s.bus = .flat policy m) :
    (beginStep s).bus = .flat policy (Memory.store m s.nextHostChange) := by
  rw [beginStep_bus, hb, Bus.hostChange_flat]

/-- Settles O7: what `Bus.hostChange` does on no bytes, on the reference bus and on another one, and `step_parameters`. -/
theorem hostChangesBetweenSteps : Obligations.HostChangesBetweenSteps := by
  rintro s _ _ rfl rfl
  refine ⟨rfl, fun hnone => ?_, fun policy m hb => ?_, fun id inputs hb hsome => ?_, fun t => step_parameters⟩
  · rw [beginStep_bus, hnone, Bus.hostChange_nil]
  · have hbus := beginStep_bus_flat hb
    refine ⟨⟨_, hbus⟩, fun x hx => ?_, fun before after x v hcells hx => ?_⟩
    · rw [byteAt_flat hbus, byteAt_flat hb, Memory.read_store_of_not_mem_map hx]
    · rw [byteAt_flat hbus, hcells, Memory.read_store_last hx]
  · rw [beginStep_bus, hb, Bus.hostChange_other hsome]

end Sys2Proof.Machine

namespace Sys2Proof.Machine

/-! Encodings (O1, O2, O25, O26, O27) -/

/-- A 16-bit operand is decoded from its two bytes, low byte first (30_encoding.md R85). -/
theorem decode_opN16 {op : Byte} {k : Word → Instr} (h : primaryEntry op = .opN16 k) (nn : Word) (rest : List Byte) :
    decode (op :: loByte nn :: hiByte nn :: rest) = .ok (k nn, rest) := by
  simp only [decode, h, Entry.complete, joinBytes_hiByte_loByte]

/-- The entry of an undefined opcode is UNDEFINED with that byte (R100). -/
theorem primaryEntry_undefined : ∀ op ∈ undefinedOpcodes, primaryEntry op = .op (.undefined op) := by
  simp only [undefinedOpcodes, List.forall_mem_cons]
  exact ⟨rfl, rfl, rfl, rfl, rfl, rfl, rfl, rfl, rfl, rfl, rfl, List.forall_mem_nil _⟩

/-- Settles O1: the opcode bytes of every constructor lead the decoder to that constructor's entry, where an 8-bit operand
stands as it is. `decode_opN16` puts a 16-bit operand together again, and well-formedness leaves UNDEFINED the eleven
bytes that decode to it. -/
theorem decodeEncodeAgree : Obligations.DecodeEncodeAgree := by
  intro i rest hwf
  cases i with
  | prefixCb op2 => cases hwf
  | undefined op =>
    have hop : primaryEntry op = .op (.undefined op) := primaryEntry_undefined op (List.contains_iff_mem.mp hwf)
    exact congrArg (fun x : Entry => x.complete op rest) hop
  | ld_BC_nn nn | ld_DE_nn nn | ld_HL_nn nn | ld_SP_nn nn | ld_atnn_SP nn | ld_atnn_A nn | ld_A_atnn nn
  | jp_nn nn | jp_NZ_nn nn | jp_Z_nn nn | jp_NC_nn nn | jp_C_nn nn
  | call_nn nn | call_NZ_nn nn | call_Z_nn nn | call_NC_nn nn | call_C_nn nn => exact decode_opN16 rfl nn rest
  | _ => rfl

/-- The byte whose fields are `x`, `y` and `z` (R81). -/
def opcodeOfFields (x : Fin 4) (y z : Fin 8) : Byte := BitVec.ofNat 8 (64 * x.val + 8 * y.val + z.val)

/-- A byte is given by its quadrant and its two other fields. -/
theorem opcodeOfFields_eq {op : Byte} {x : Fin 4} (hx : fieldX op = x) :
    opcodeOfFields x (fieldY op) (fieldZ op) = op := by
  subst hx
  apply BitVec.eq_of_toNat_eq
  have := op.isLt
  simp only [opcodeOfFields, fieldX, fieldY, fieldZ, BitVec.toNat_ofNat]
  omega

/-- `bytes` are the words of `i`, which is well-formed. -/
def WordsAre (i : Instr) (bytes : List Byte) : Prop := encode i = bytes ∧ wellFormed i = true

/-- Whatever the operand, the entry makes a well-formed instruction, whose words are the opcode `op` and the operand; the
escape stands at its code alone (R94). -/
def EntryWordsAre (x : Entry) (op : Byte) : Prop :=
  match x with
  | .op i => WordsAre i [op]
  | .opN8 k => ∀ n, WordsAre (k n) [op, n]
  | .opN16 k => ∀ nn, WordsAre (k nn) [op, loByte nn, hiByte nn]
  | .escape => op = Config.escapeCode

theorem entryWordsAre_quadrant0 (y z : Fin 8) : EntryWordsAre (quadrant0 y z) (opcodeOfFields 0 y z) :=
  match z, y with
  | 0, 0 | 0, 2 => ⟨rfl, rfl⟩
  | 0, 1 | 0, 3 | 0, 4 | 0, 5 | 0, 6 | 0, 7 => fun _ => ⟨rfl, rfl⟩
  | 1, 0 | 1, 2 | 1, 4 | 1, 6 => fun _ => ⟨rfl, rfl⟩
  | 1, 1 | 1, 3 | 1, 5 | 1, 7 => ⟨rfl, rfl⟩
  | 2, 0 | 2, 1 | 2, 2 | 2, 3 | 2, 4 | 2, 5 | 2, 6 | 2, 7 => ⟨rfl, rfl⟩
  | 3, 0 | 3, 1 | 3, 2 | 3, 3 | 3, 4 | 3, 5 | 3, 6 | 3, 7 => ⟨rfl, rfl⟩
  | 4, 0 | 4, 1 | 4, 2 | 4, 3 | 4, 4 | 4, 5 | 4, 6 | 4, 7 => ⟨rfl, rfl⟩
  | 5, 0 | 5, 1 | 5, 2 | 5, 3 | 5, 4 | 5, 5 | 5, 6 | 5, 7 => ⟨rfl, rfl⟩
  | 6, 0 | 6, 1 | 6, 2 | 6, 3 | 6, 4 | 6, 5 | 6, 6 | 6, 7 => fun _ => ⟨rfl, rfl⟩
  | 7, 0 | 7, 1 | 7, 2 | 7, 3 | 7, 4 | 7, 5 | 7, 6 | 7, 7 => ⟨rfl, rfl⟩

theorem entryWordsAre_quadrant1 : ∀ y z : Fin 8,
    EntryWordsAre (.op (.ld8 (sel8OfField y) (sel8OfField z))) (opcodeOfFields 1 y z) := by
  simp only [EntryWordsAre, WordsAre]
  decide

theorem entryWordsAre_quadrant2 : ∀ y z : Fin 8,
    EntryWordsAre (.op (.alu (aluOpOfField y) (sel8OfField z))) (opcodeOfFields 2 y z) := by
  simp only [EntryWordsAre, WordsAre]
  decide

theorem entryWordsAre_quadrant3 (y z : Fin 8) :
    EntryWordsAre (quadrant3 (opcodeOfFields 3 y z) y z) (opcodeOfFields 3 y z) :=
  match z, y with
  | 0, 0 | 0, 1 | 0, 2 | 0, 3 => ⟨rfl, rfl⟩
  | 0, 4 | 0, 5 | 0, 6 | 0, 7 => fun _ => ⟨rfl, rfl⟩
  | 1, 0 | 1, 1 | 1, 2 | 1, 3 | 1, 4 | 1, 5 | 1, 6 | 1, 7 => ⟨rfl, rfl⟩
  | 2, 0 | 2, 1 | 2, 2 | 2, 3 | 2, 5 | 2, 7 => fun _ => ⟨rfl, rfl⟩
  | 2, 4 | 2, 6 => ⟨rfl, rfl⟩
  | 3, 0 => fun _ => ⟨rfl, rfl⟩
  | 3, 1 => rfl
  | 3, 2 | 3, 3 | 3, 4 | 3, 5 | 3, 6 | 3, 7 => ⟨rfl, rfl⟩
  | 4, 0 | 4, 1 | 4, 2 | 4, 3 => fun _ => ⟨rfl, rfl⟩
  | 4, 4 | 4, 5 | 4, 6 | 4, 7 => ⟨rfl, rfl⟩
  | 5, 0 | 5, 2 | 5, 3 | 5, 4 | 5, 5 | 5, 6 | 5, 7 => ⟨rfl, rfl⟩
  | 5, 1 => fun _ => ⟨rfl, rfl⟩
  | 6, 0 | 6, 1 | 6, 2 | 6, 3 | 6, 4 | 6, 5 | 6, 6 | 6, 7 => fun _ => ⟨rfl, rfl⟩
  | 7, 0 | 7, 1 | 7, 2 | 7, 3 | 7, 4 | 7, 5 | 7, 6 | 7, 7 => ⟨rfl, rfl⟩

/-- Every entry of the primary table stands at the opcode that its instruction's words begin with: by quadrant. -/
theorem entryWordsAre_primaryEntry (op : Byte) : EntryWordsAre (primaryEntry op) op := by
  unfold primaryEntry
  match hx : fieldX op with
  | 0 => simpa only [opcodeOfFields_eq hx] using entryWordsAre_quadrant0 (fieldY op) (fieldZ op)
  | 1 => simpa only [opcodeOfFields_eq hx] using entryWordsAre_quadrant1 (fieldY op) (fieldZ op)
  | 2 => simpa only [opcodeOfFields_eq hx] using entryWordsAre_quadrant2 (fieldY op) (fieldZ op)
  | 3 => simpa only [opcodeOfFields_eq hx] using entryWordsAre_quadrant3 (fieldY op) (fieldZ op)

theorem wordsAre_extendedInstr : ∀ op2 : Byte, WordsAre (extendedInstr op2) [Config.escapeCode, op2] := by
  unfold WordsAre
  decide

/-- What an entry makes of the bytes after the opcode has as its words exactly the opcode and the bytes it consumed. -/
theorem wellFormed_and_encode_of_complete {x : Entry} {op : Byte} {bytes rest : List Byte} {i : Instr}
    (hx : EntryWordsAre x op) (h : x.complete op bytes = .ok (i, rest)) :
    wellFormed i = true ∧ op :: bytes = encode i ++ rest := by
  have append_rest {words : List Byte} (hw : WordsAre i words) : wellFormed i = true ∧ words ++ rest = encode i ++ rest :=
    ⟨hw.2, by rw [hw.1]⟩
  match x, bytes, h with
  | .op _, _, rfl => exact append_rest hx
  | .opN8 _, n :: _, rfl => exact append_rest (hx n)
  | .opN16 _, lo :: hi :: _, rfl =>
    have hw := hx (joinBytes hi lo)
    rw [loByte_joinBytes, hiByte_joinBytes] at hw
    exact append_rest hw
  | .escape, op2 :: _, rfl =>
    cases hx
    exact append_rest (wordsAre_extendedInstr op2)

/-- Settles O2: a decoded instruction is what the primary table's entry makes of the bytes after the opcode. -/
theorem encodeDecodeAgree : Obligations.EncodeDecodeAgree
  | op :: _, _, _, h => wellFormed_and_encode_of_complete (entryWordsAre_primaryEntry op) h

/-! The words of the selector forms, by the selector's number -/

theorem encode_ld8 (d r : Sel8) : encode (.ld8 d r) = [BitVec.ofNat 8 (0x40 + 8 * selCode d + selCode r)] := by
  rcases d with ⟨⟨⟩⟩ | _ <;> rcases r with ⟨⟨⟩⟩ | _ <;> rfl

theorem encode_ld8n (d : Sel8) (n : Byte) : encode (.ld8n d n) = [BitVec.ofNat 8 (0x06 + 8 * selCode d), n] := by
  rcases d with ⟨⟨⟩⟩ | _ <;> rfl

theorem encode_inc8 (d : Sel8) : encode (.inc8 d) = [BitVec.ofNat 8 (0x04 + 8 * selCode d)] := by
  rcases d with ⟨⟨⟩⟩ | _ <;> rfl

theorem encode_dec8 (d : Sel8) : encode (.dec8 d) = [BitVec.ofNat 8 (0x05 + 8 * selCode d)] := by
  rcases d with ⟨⟨⟩⟩ | _ <;> rfl

theorem encode_alu (o : AluOp) (r : Sel8) :
    encode (.alu o r) = [BitVec.ofNat 8 (0x80 + 8 * aluCode o + selCode r)] := by
  cases o <;> rcases r with ⟨⟨⟩⟩ | _ <;> rfl

theorem encode_aluN (o : AluOp) (n : Byte) : encode (.aluN o n) = [BitVec.ofNat 8 (0xC6 + 8 * aluCode o), n] := by
  cases o <;> rfl

theorem encode_ldPair (p : Pair) (nn : Word) :
    encode (.ldPair p nn) = [BitVec.ofNat 8 (0x01 + 16 * pairCode p), loByte nn, hiByte nn] := by
  cases p <;> rfl

theorem encode_addHL (p : Pair) : encode (.addHL p) = [BitVec.ofNat 8 (0x09 + 16 * pairCode p)] := by
  cases p <;> rfl

theorem encode_incPair (p : Pair) : encode (.incPair p) = [BitVec.ofNat 8 (0x03 + 16 * pairCode p)] := by
  cases p <;> rfl

theorem encode_decPair (p : Pair) : encode (.decPair p) = [BitVec.ofNat 8 (0x0B + 16 * pairCode p)] := by
  cases p <;> rfl

theorem encode_push (p : StackPair) : encode (.push p) = [BitVec.ofNat 8 (0xC5 + 16 * stackPairCode p)] := by
  cases p <;> rfl

theorem encode_pop (p : StackPair) : encode (.pop p) = [BitVec.ofNat 8 (0xC1 + 16 * stackPairCode p)] := by
  cases p <;> rfl

theorem encode_jrIf (k : Cond) (e : Byte) : encode (.jrIf k e) = [BitVec.ofNat 8 (0x20 + 8 * condCode k), e] := by
  cases k <;> rfl

theorem encode_jpIf (k : Cond) (nn : Word) :
    encode (.jpIf k nn) = [BitVec.ofNat 8 (0xC2 + 8 * condCode k), loByte nn, hiByte nn] := by
  cases k <;> rfl

theorem encode_callIf (k : Cond) (nn : Word) :
    encode (.callIf k nn) = [BitVec.ofNat 8 (0xC4 + 8 * condCode k), loByte nn, hiByte nn] := by
  cases k <;> rfl

theorem encode_retIf (k : Cond) : encode (.retIf k) = [BitVec.ofNat 8 (0xC0 + 8 * condCode k)] := by
  cases k <;> rfl

theorem encode_rst (n : Fin 8) : encode (.rst n) = [BitVec.ofNat 8 (0xC7 + 8 * n.val)] := by
  match n with | 0 | 1 | 2 | 3 | 4 | 5 | 6 | 7 => rfl

theorem encode_rotate (k : RotKind) (r : Sel8) :
    encode (.rotate k r) = [0xCB, BitVec.ofNat 8 (8 * rotCode k + selCode r)] := by
  cases k <;> rcases r with ⟨⟨⟩⟩ | _ <;> rfl

theorem encode_bit (b : Fin 8) (r : Sel8) :
    encode (.bit b r) = [0xCB, BitVec.ofNat 8 (0x40 + 8 * b.val + selCode r)] := by
  match b with
  | 0 | 1 | 2 | 3 | 4 | 5 | 6 | 7 => rcases r with ⟨⟨⟩⟩ | _ <;> rfl

theorem encode_res (b : Fin 8) (r : Sel8) :
    encode (.res b r) = [0xCB, BitVec.ofNat 8 (0x80 + 8 * b.val + selCode r)] := by
  match b with
  | 0 | 1 | 2 | 3 | 4 | 5 | 6 | 7 => rcases r with ⟨⟨⟩⟩ | _ <;> rfl

theorem encode_set (b : Fin 8) (r : Sel8) :
    encode (.set b r) = [0xCB, BitVec.ofNat 8 (0xC0 + 8 * b.val + selCode r)] := by
  match b with
  | 0 | 1 | 2 | 3 | 4 | 5 | 6 | 7 => rcases r with ⟨⟨⟩⟩ | _ <;> rfl

/-- Settles O26: one lemma per form; a 16-bit operand given by its bytes has these bytes as its own. -/
theorem primarySelectorEncodings : Obligations.PrimarySelectorEncodings :=
  ⟨encode_ld8, encode_ld8n, encode_inc8, encode_dec8, encode_alu, encode_aluN,
    fun p hi lo => by rw [encode_ldPair, loByte_joinBytes, hiByte_joinBytes],
    encode_addHL, encode_incPair, encode_decPair, encode_push, encode_pop, encode_jrIf,
    fun k hi lo => by rw [encode_jpIf, loByte_joinBytes, hiByte_joinBytes],
    fun k hi lo => by rw [encode_callIf, loByte_joinBytes, hiByte_joinBytes],
    encode_retIf, encode_rst⟩

/-- Settles O27: one lemma per form of the extended table. -/
theorem extendedEncodings : Obligations.ExtendedEncodings := ⟨encode_rotate, encode_bit, encode_res, encode_set⟩

/-- Settles O25: the decoder run on each of the words. -/
theorem writtenWordsDecode : Obligations.WrittenWordsDecode :=
  ⟨rfl, rfl, rfl, rfl, rfl, rfl, rfl, rfl, rfl, rfl⟩

end Sys2Proof.Machine

namespace Sys2Proof.Machine

/-! The 8-bit loads (O29 to O33) -/

/-- Memory is kept as far as the bus is the same: what else a state holds does not matter. -/
theorem MemoryKept.congr_bus {s t u : State} (h : MemoryKept s t) (hbus : u.bus = t.bus) : MemoryKept s u :=
  fun policy m hb x => (byteAt_congr hbus x).trans (h policy m hb x)

/-- One bus write is all of the change of memory as far as the bus is the same. -/
theorem MemoryAfterWrite.congr_bus {s t u : State} {addr : Word} {v : Byte} (h : MemoryAfterWrite s t addr v)
    (hbus : u.bus = t.bus) : MemoryAfterWrite s u addr v :=
  fun policy m hb x => (byteAt_congr hbus x).trans (h policy m hb x)

/-- The address of the LDH forms, in natural numbers (20_memory.md R70). -/
theorem highPage_eq_ofNat (n : Byte) : highPage n = BitVec.ofNat 16 (0xFF00 + n.toNat) := by
  rw [highPage, zext16, BitVec.ofNat_add, BitVec.ofNat_toNat]
  rfl

/-- HL stepped by `delta` wraps at 65536. -/
theorem hl_setHL_add_toNat (s t : State) (delta : Word) :
    (t.setHL (s.hl + delta)).hl.toNat = (s.hl.toNat + delta.toNat) % 65536 := by
  rw [hl_setHL, BitVec.toNat_add]

/-- What a load of A through HL with a step does (40_load8.md R137, R139). -/
theorem loadAStepHL_spec (delta : Word) (s : State) :
    ∃ t, loadAStepHL delta s = .next t ∧ t.hl.toNat = (s.hl.toNat + delta.toNat) % 65536 ∧
      t = { s.transact [.read s.hl (s.byteAt s.hl)] with a := s.byteAt s.hl, h := t.h, l := t.l } ∧
      MemoryKept s t :=
  ⟨_, rfl, hl_setHL_add_toNat s _ delta, rfl, (memoryKept_readAt s s.hl).congr_bus rfl⟩

/-- What a store of A through HL with a step does (R136, R138). -/
theorem storeAStepHL_spec (delta : Word) (s : State) :
    ∃ t, storeAStepHL delta s = .next t ∧ t.hl.toNat = (s.hl.toNat + delta.toNat) % 65536 ∧
      t = { s.transact [.write s.hl s.a] with h := t.h, l := t.l } ∧
      MemoryAfterWrite s t s.hl s.a := by
  obtain ⟨-, hmem⟩ := busWrite_spec s.hl s.a s
  exact ⟨_, rfl, hl_setHL_add_toNat s _ delta, rfl, hmem.congr_bus rfl⟩

/-- Settles O33: the forms with HL+ step by 1 and those with HL- by -1, which is 65535 as a number. -/
theorem steppingLoadsAndStores : Obligations.SteppingLoadsAndStores := by
  intro s
  simp only [List.forall_mem_cons]
  exact ⟨⟨loadAStepHL_spec 1 s, loadAStepHL_spec (-1) s, List.forall_mem_nil _⟩,
    storeAStepHL_spec 1 s, storeAStepHL_spec (-1) s, List.forall_mem_nil _⟩

/-- Settles O29: every form is the write of one register, the (HL) form in the state after its read. -/
theorem loadsToRegister : Obligations.LoadsToRegister := fun s d =>
  ⟨fun r => ⟨_, exec_ld8_reg d (.reg r) s, regWritten_setReg s d (s.reg r)⟩,
    fun n => ⟨_, exec_ld8n (.reg d) n s, regWritten_setReg s d n⟩,
    _, exec_ld8_reg d .atHL s, regWritten_setReg s.afterReadAtHL d (s.byteAt s.hl),
    (memoryKept_readAt s s.hl).congr_bus (setReg_bus ..)⟩

/-- Settles O30: both forms are one bus write at HL. -/
theorem storesAtHL : Obligations.StoresAtHL := by
  rintro s _ v (⟨r, rfl, rfl⟩ | rfl)
  · exact ⟨_, exec_ld8_atHL r s, busWrite_spec s.hl (s.reg r) s⟩
  · exact ⟨_, exec_ld8n .atHL v s, busWrite_spec s.hl v s⟩

/-- What a load of A does (R126, R127, R130, R132, R134). -/
theorem loadA_spec (addr : Word) (s : State) :
    ∃ t, loadA addr s = .next t ∧ t = { s.transact [.read addr (s.byteAt addr)] with a := s.byteAt addr } ∧
      MemoryKept s t :=
  ⟨_, rfl, rfl, (memoryKept_readAt s addr).congr_bus rfl⟩

/-- Settles O31: each form is `loadA` at its address. -/
theorem loadsOfAFromAddress : Obligations.LoadsOfAFromAddress := by
  intro s nn n
  simp only [List.forall_mem_cons, ← highPage_eq_ofNat]
  exact ⟨loadA_spec s.bc s, loadA_spec s.de s, loadA_spec nn s, loadA_spec (highPage s.c) s,
    loadA_spec (highPage n) s, List.forall_mem_nil _⟩

/-- What a store of A does (R128, R129, R131, R133, R135). -/
theorem storeA_spec (addr : Word) (s : State) :
    ∃ t, storeA addr s = .next t ∧ t = s.transact [.write addr s.a] ∧ MemoryAfterWrite s t addr s.a :=
  ⟨_, rfl, busWrite_spec addr s.a s⟩

/-- Settles O32: each form is `storeA` at its address. -/
theorem storesOfAToAddress : Obligations.StoresOfAToAddress := by
  intro s nn n
  simp only [List.forall_mem_cons, ← highPage_eq_ofNat]
  exact ⟨storeA_spec s.bc s, storeA_spec s.de s, storeA_spec nn s, storeA_spec (highPage s.c) s,
    storeA_spec (highPage n) s, List.forall_mem_nil _⟩

end Sys2Proof.Machine

namespace Sys2Proof.Machine

/-! The 16-bit loads and the stack (O34 to O39) -/

/-- Settles O34: a load of a pair is the write of that pair. -/
theorem loadsOfPairs : Obligations.LoadsOfPairs := fun s =>
  ⟨fun p nn => ⟨_, exec_ldPair p nn s, pairWritten_setPair s p nn⟩, rfl⟩

/-- What a store of SP does: two bus writes (41_load16_stack.md R141). -/
theorem storeSP_spec (nn : Word) (s : State) :
    storeSP nn s = .next (s.transact [.write nn (loByte s.sp), .write (nn + 1) (hiByte s.sp)]) :=
  congrArg Host.Outcome.next (transact_transact s [.write nn (loByte s.sp)] [.write (nn + 1) (hiByte s.sp)])

/-- Settles O35: `storeSP_spec`, with SP taken apart into the bytes of its number. -/
theorem storeOfSP : Obligations.StoreOfSP := by
  intro s nn hi lo hsp
  refine ⟨_, ?_, rfl, memoryAfterWrites s _ _ _ _ _ rfl⟩
  have h : exec (.ld_atnn_SP nn) s = _ := storeSP_spec nn s
  rwa [eq_joinBytes hsp, loByte_joinBytes, hiByte_joinBytes] at h

/-- A byte taken as signed and extended to a word, as a number: a negative one counts down from 65536. -/
theorem sext16_toNat (e : Byte) :
    (sext16 e).toNat = if e.toNat < 0x80 then e.toNat else e.toNat + 0xFF00 := by
  have he := e.isLt
  simp only [sext16, BitVec.toNat_signExtend, BitVec.msb_eq_decide, BitVec.toNat_setWidth, decide_eq_true_eq]
  by_cases hneg : e.toNat < 0x80
  · rw [if_pos hneg, if_neg (by omega)]
    omega
  · rw [if_neg hneg, if_pos (by omega)]
    omega

/-- The bits in which a sum differs from the exclusive or of its terms are the carries into them. -/
theorem xor_xor_add_getLsbD (x y : Word) {i : Nat} (hi : i < 16) :
    (x ^^^ y ^^^ (x + y)).getLsbD i = decide (x.toNat % 2 ^ i + y.toNat % 2 ^ i ≥ 2 ^ i) := by
  calc (x ^^^ y ^^^ (x + y)).getLsbD i = BitVec.carry i x y false := by
        rw [BitVec.getLsbD_xor, BitVec.getLsbD_xor, BitVec.getLsbD_add hi]
        cases x.getLsbD i <;> cases y.getLsbD i <;> simp
    _ = decide (x.toNat % 2 ^ i + y.toNat % 2 ^ i ≥ 2 ^ i) := rfl

/-- The word of `spoff` is the sum with the signed offset and wraps at 65536 (44_alu16.md R213). -/
theorem spoff_res_toNat (sp : Word) (e : Byte) :
    (spoff sp e).res.toNat = (sp.toNat + (if e.toNat < 0x80 then e.toNat else e.toNat + 0xFF00)) % 65536 := by
  rw [spoff, BitVec.toNat_add, sext16_toNat]

/-- The half-carry of `spoff` is the carry out of bit 3 (R213). -/
theorem spoff_h (sp : Word) (e : Byte) :
    (spoff sp e).h = decide (sp.toNat % 16 + e.toNat % 16 > 0x0F) := by
  have hlow : (sext16 e).toNat % 16 = e.toNat % 16 := by rw [sext16_toNat]; split <;> omega
  refine (xor_xor_add_getLsbD sp (sext16 e) (by decide : 4 < 16)).trans ?_
  rw [show 2 ^ 4 = 16 from rfl, hlow]
  rfl

/-- The carry of `spoff` is the carry out of bit 7, with the offset taken as unsigned (R213). -/
theorem spoff_c (sp : Word) (e : Byte) :
    (spoff sp e).c = decide (sp.toNat % 256 + e.toNat > 0xFF) := by
  have hlow : (sext16 e).toNat % 256 = e.toNat := by have := e.isLt; rw [sext16_toNat]; split <;> omega
  refine (xor_xor_add_getLsbD sp (sext16 e) (by decide : 8 < 16)).trans ?_
  rw [show 2 ^ 8 = 256 from rfl, hlow]
  rfl

/-- The flags of LD HL,SP+e and ADD SP,e, set on any state. -/
theorem flagsAre_spoff (t : State) (sp : Word) (e : Byte) :
    (t.setFlags false false (spoff sp e).h (spoff sp e).c).FlagsAre false false
      (decide (sp.toNat % 16 + e.toNat % 16 > 0x0F)) (decide (sp.toNat % 256 + e.toNat > 0xFF)) := by
  rw [← spoff_h, ← spoff_c]
  exact flagsAre_setFlags ..

/-- Settles O36: the two forms write the result of `spoff` to HL and to SP. -/
theorem signedOffsetFromSP : Obligations.SignedOffsetFromSP := by
  intro s e
  have hhl := spoff_res_toNat s.sp e
  rw [← hl_setHL s (spoff s.sp e).res] at hhl
  exact ⟨⟨_, rfl, hhl, flagsAre_spoff _ s.sp e, rfl⟩,
    _, rfl, spoff_res_toNat s.sp e, flagsAre_spoff _ s.sp e, rfl⟩

/-- Settles O37: `push16_spec`, with the pair taken apart into the bytes of its number. -/
theorem pushStoresPair : Obligations.PushStoresPair := by
  intro s p hi lo hv
  obtain ⟨hpush, hmem⟩ := push16_spec (s.stackPair p) s
  refine ⟨_, exec_push p s, ?_⟩
  rw [eq_joinBytes hv, hiByte_joinBytes, loByte_joinBytes] at hpush hmem
  rw [eq_joinBytes hv]
  exact ⟨hpush, hmem⟩

/-- Writing F takes the four flags from bits 7 to 4 (10_state.md R23). -/
theorem flagsAre_setF (s : State) (v : Byte) :
    (s.setF v).FlagsAre (v.getLsbD 7) (v.getLsbD 6) (v.getLsbD 5) (v.getLsbD 4) := by
  refine ⟨?_, ?_, ?_, ?_, setF_lowNibble s v⟩
  · simp [State.flagZ]
  · simp [State.flagN]
  · simp [State.flagH]
  · simp [State.flagC]

/-- What a POP does (41_load16_stack.md R145): the pair takes the two bytes, in the state that `pop16` leaves. -/
theorem exec_pop_of_bytes {s : State} {lo hi : Byte} (hlo : lo = s.byteAt s.sp)
    (hhi : hi = (s.readAt s.sp).byteAt (s.sp + 1)) (p : StackPair) :
    exec (.pop p) s = .next (({ s.transact [.read s.sp lo, .read (s.sp + 1) hi] with
      sp := s.sp + 2 } : State).setStackPair p (joinBytes hi lo)) := by
  rw [exec_pop, popPair, pop16_spec, ← hlo, ← hhi]

/-- Settles O38: `exec_pop_of_bytes` for each of the four pairs. -/
theorem popLoadsPair : Obligations.PopLoadsPair := by
  rintro s lo hi hlo hhi _ rfl
  have hpop := exec_pop_of_bytes hlo hhi
  refine ⟨(memoryKept_pop16 s).congr_bus ?_, (hpop .BC).trans ?_, (hpop .DE).trans ?_, (hpop .HL).trans ?_,
    _, hpop .AF, ?_, ?_⟩
  · rw [pop16_bus, ← hlo, ← hhi]
    rfl
  · simp [State.setStackPair, State.setBC]
  · simp [State.setStackPair, State.setDE]
  · simp [State.setStackPair, State.setHL]
  · simp [State.setStackPair, State.setAF, State.setF]
  · simpa [State.setStackPair, State.setAF] using flagsAre_setF _ lo

/-- Writing a pair of R31 gives it the value, AF without the low nibble (41_load16_stack.md R146). -/
theorem stackPair_setStackPair (s : State) (p : StackPair) (w : Word) :
    (s.setStackPair p w).stackPair p = if p = .AF then w &&& 0xFFF0 else w := by
  cases p with
  | BC => exact bc_setBC s w
  | DE => exact de_setDE s w
  | HL => exact hl_setHL s w
  | AF => exact af_setAF s w

/-- A byte with low nibble 0 is its own high part. -/
theorem and_highNibble_of_lowNibble {v : Byte} (h : v &&& 0x0F = 0) : v &&& 0xF0 = v := by
  calc v &&& 0xF0 = v &&& 0xF0 ||| v &&& 0x0F := by rw [h]; exact BitVec.or_zero.symm
    _ = v &&& (0xF0 ||| 0x0F) := BitVec.and_or_distrib_left.symm
    _ = v := BitVec.and_allOnes

/-- The mask of POP AF takes nothing from an AF whose low nibble is 0 (10_state.md R23). -/
theorem af_and_mask {s : State} (h : s.f &&& 0x0F = 0) : s.af &&& 0xFFF0 = s.af := by
  calc s.af &&& 0xFFF0 = joinBytes (s.a &&& 0xFF) (s.f &&& 0xF0) := joinBytes_and s.a s.f 0xFF 0xF0
    _ = joinBytes s.a (s.f &&& 0xF0) := congrArg (joinBytes · _) BitVec.and_allOnes
    _ = s.af := congrArg (joinBytes s.a) (and_highNibble_of_lowNibble h)

/-- The high byte stands one above the low byte, where the pop reads it. -/
theorem sub_two_add_one (sp : Word) : sp - 2 + 1 = sp - 1 := by bv_omega

/-- The reference bus answers the two bytes of a push, where it keeps them (20_memory.md R66). -/
theorem byteAt_push16_flat {s : State} {policy : RomWrite} {m : Memory} (v : Word) (hb : s.bus = .flat policy m)
    (hkhi : keepsWrite policy (s.sp - 1) = true) (hklo : keepsWrite policy (s.sp - 2) = true) :
    (push16 v s).byteAt (s.sp - 2) = loByte v ∧
      ((push16 v s).transact [.read (s.sp - 2) (loByte v)]).byteAt (s.sp - 1) = hiByte v := by
  have hne : s.sp - 1 ≠ s.sp - 2 := by bv_omega
  obtain ⟨m', hb'⟩ : ∃ m', (push16 v s).bus = .flat policy m' := by
    rw [push16_bus, hb]
    exact Bus.after_flat policy m _
  have hread : ((push16 v s).transact [.read (s.sp - 2) (loByte v)]).bus = (push16 v s).bus := by
    rw [transact_bus, hb', Bus.after_read_flat, Bus.after_nil]
  have hmem := (push16_spec v s).2 policy m hb
  constructor
  · rw [hmem, if_pos ⟨rfl, hklo⟩]
  · rw [byteAt_congr hread, hmem, if_neg fun h => hne h.1, if_pos ⟨rfl, hkhi⟩]

/-- A pop after a push gives the word that was pushed and restores SP, on a bus that answers the two bytes (R147). -/
theorem pop16_push16 {s : State} {v : Word} (hlo : (push16 v s).byteAt (s.sp - 2) = loByte v)
    (hhi : ((push16 v s).transact [.read (s.sp - 2) (loByte v)]).byteAt (s.sp - 1) = hiByte v) :
    (pop16 (push16 v s)).1 = v ∧ (pop16 (push16 v s)).2.sp = s.sp := by
  constructor
  · rw [← hlo] at hhi
    rw [pop16_spec, push16_sp, sub_two_add_one, hlo]
    exact (congrArg (joinBytes · _) hhi).trans (joinBytes_hiByte_loByte v)
  · rw [pop16_sp, push16_sp, BitVec.sub_add_cancel]

/-- Settles O39: `pop16_push16`, and `byteAt_push16_flat` for the reference bus. -/
theorem pushPopRoundTrip : Obligations.PushPopRoundTrip := by
  rintro s p q hi lo _ hv rfl
  have hbytes := eq_joinBytes hv
  obtain rfl : hiByte (s.stackPair p) = hi := by rw [hbytes, hiByte_joinBytes]
  obtain rfl : loByte (s.stackPair p) = lo := by rw [hbytes, loByte_joinBytes]
  refine ⟨fun policy m hb => byteAt_push16_flat _ hb, fun hlo hhi => ?_⟩
  obtain ⟨hword, hsp⟩ := pop16_push16 (s := s) (v := s.stackPair p) hlo hhi
  refine ⟨_, _, exec_push p s, exec_pop q _, (setStackPair_sp ..).trans hsp, ?_, ?_⟩
  · rw [stackPair_setStackPair, hword]
  · rintro rfl hf
    rw [stackPair_setStackPair, hword]
    split
    · exact af_and_mask hf
    · rfl

end Sys2Proof.Machine

namespace Sys2Proof.Machine

/-! The step and the system instructions (O6, O8, O10, O11, O15, O40, O41) -/

/-- Settles O8: of the outcomes of a step, only the stuck core's is no next state, and its latch is set. -/
theorem stepAlwaysEnds : Obligations.StepAlwaysEnds := by
  intro s hf
  rcases step_outcomes s with ⟨hstuck, -⟩ | ⟨-, -, h⟩ | ⟨-, _, _, -, -, h⟩
  · cases hf.symm.trans hstuck
  · exact ⟨_, h⟩
  · exact ⟨_, h⟩

/-- Settles O10: a step begins with an empty log and works within the frame of five transactions. -/
theorem stepMakesAtMostFiveTransactions : Obligations.StepMakesAtMostFiveTransactions := by
  intro s t hstep
  obtain ⟨u, _, _, _, _, rfl, hframe⟩ := step_frame_latches hstep
  obtain ⟨evs, hlog, hlen, -⟩ := hframe.log
  exact hlog ▸ hlen

/-- A run goes on from where its first step ends. -/
theorem run_succ_of_step {s t : State} (h : step s = .next t) (k : Nat) : core.run (k + 1) s = core.run k t := by
  simp only [Host.Core.run, core, h]

/-- The host's first `k + 1` changes are the one before a step and the next `k` on the bus it begins on (20_memory.md R69). -/
theorem foldl_hostChange_take_succ (s : State) (k : Nat) :
    (s.hostWrites.take (k + 1)).foldl Bus.hostChange s.bus =
      (s.hostWrites.tail.take k).foldl Bus.hostChange (beginStep s).bus := by
  cases h : s.hostWrites with
  | nil =>
    rw [beginStep_bus, nextHostChange_none h, Bus.hostChange_nil, List.tail_nil, List.take_nil, List.take_nil]
  | cons cells rest =>
    rw [beginStep_bus, nextHostChange_some h]
    rfl

/-- Settles O11, by induction on the number of steps: the halted step makes the host's change and nothing else, and leaves
the core halted. -/
theorem haltedCoreIdlesForever : Obligations.HaltedCoreIdlesForever := by
  intro s hh hf k
  induction k generalizing s with
  | zero =>
    refine (run_succ_of_step (step_halted hf hh) 0).trans ?_
    rw [foldl_hostChange_take_succ, List.drop_one]
    rfl
  | succ k ih =>
    refine ((run_succ_of_step (step_halted hf hh) (k + 1)).trans (ih _ hh hf)).trans ?_
    rw [foldl_hostChange_take_succ s, ← List.drop_tail (l := s.hostWrites)]
    rfl

/-- An undefined opcode is the whole instruction. -/
theorem instrLength_undefined {op : Byte} (h : op ∈ undefinedOpcodes) : instrLength op = 1 :=
  congrArg Entry.length (primaryEntry_undefined op h)

/-- Where an undefined opcode stands at PC, UNDEFINED with that byte is decoded (30_encoding.md R100). -/
theorem decode_instrBytes_undefined {b : State} (h : b.byteAt b.pc ∈ undefinedOpcodes) :
    decode b.instrBytes = .ok (.undefined (b.byteAt b.pc), []) := by
  have hbytes : b.instrBytes = [b.byteAt b.pc] := by
    rw [State.instrBytes, instrLength_undefined h]
    rfl
  rw [hbytes]
  exact decodeEncodeAgree (.undefined (b.byteAt b.pc)) [] (List.contains_iff_mem.mpr h)

/-- UNDEFINED runs with PC one past the only byte read (42_dispatch_system.md R159). -/
theorem ready_undefined {b : State} (h : b.byteAt b.pc ∈ undefinedOpcodes) :
    b.ready = { b.readAt b.pc with pc := b.pc + 1 } := by
  rw [State.ready, instrLength_undefined h]
  rfl

/-- No count is returned where an undefined opcode stands at PC (60_exceptions.md R271). -/
theorem recordCycles_undefined {b : State} (h : b.byteAt b.pc ∈ undefinedOpcodes) (s : State) :
    recordCycles b.instrBytes s = s := by
  rcases recordCycles_instrBytes b with ⟨-, hnone⟩ | ⟨hdef, -⟩
  · exact hnone s
  · exact absurd h hdef

/-- Settles O15: UNDEFINED is decoded, its operation takes the decode fault with the address before PC, and no count is
returned. -/
theorem undefinedOpcodeTakesDecodeFault : Obligations.UndefinedOpcodeTakesDecodeFault := by
  rintro s _ _ hrun rfl rfl hund
  obtain ⟨i, x, hi, hx, hstep⟩ := step_of_running hrun
  cases hi.symm.trans (decode_instrBytes_undefined hund)
  cases hx
  have haddr : s.pc + 1 - 1 = s.pc := BitVec.add_sub_cancel ..
  rw [hstep, recordCycles_undefined hund, ready_undefined hund]
  simp only [raiseDecodeFault, beginStep_pc, haddr]
  rfl

/-- The three bytes at PC decode to the same instruction as its own bytes alone. -/
theorem decode_instrBytes {b : State} {i : Instr} {rest : List Byte} (h : decode b.bytesAtPC = .ok (i, rest)) :
    decode b.instrBytes = .ok (i, []) := by
  obtain ⟨j, hj, hj3⟩ := decode_bytesAtPC b
  cases hj3.symm.trans h
  exact hj

/-- The bytes of the instruction at PC are its words. -/
theorem instrBytes_eq_encode {b : State} {i : Instr} (h : decode b.instrBytes = .ok (i, [])) : b.instrBytes = encode i := by
  obtain ⟨-, hwords⟩ := encodeDecodeAgree _ _ _ h
  rwa [List.append_nil] at hwords

/-- The opcode at PC says how many bytes the instruction has. -/
theorem instrBytes_length (b : State) : b.instrBytes.length = instrLength (b.byteAt b.pc) := by
  obtain ⟨b1, b2, hb⟩ := bytesAtPC_eq b
  rw [State.instrBytes, hb]
  rcases instrLength_cases (b.byteAt b.pc) with h | h | h <;> rw [h] <;> rfl

/-- Settles O6: the bytes a step fetches are the words of the instruction that the bytes at PC decode to. -/
theorem stepRunsDecodedInstruction : Obligations.StepRunsDecodedInstruction := by
  rintro s _ i rest hrun rfl hdec
  have hi := decode_instrBytes hdec
  obtain ⟨j, hj, hstep⟩ := step_running hrun rfl
  cases hj.symm.trans hi
  rw [exec_eq_run, ← instrBytes_eq_encode hi, instrBytes_length]
  exact hstep

/-- The extended entry of a byte is the meaning of the instruction the extended table has there (30_encoding.md R99). -/
theorem exec_extendedInstr (op2 : Byte) (s : State) : exec (extendedInstr op2) s = extendedEntry op2 s := by
  unfold extendedInstr extendedEntry
  match fieldX op2 with
  | 0 => exact exec_rotate ..
  | 1 => exact exec_bit ..
  | 2 => exact exec_res ..
  | 3 => exact exec_set ..

/-- Settles O41: the decoder reads `extendedInstr op2`, and the escape's operation is its entry. -/
theorem escapeRunsExtendedEntry : Obligations.EscapeRunsExtendedEntry := by
  intro s op2
  obtain ⟨t, ht, -⟩ := everyInstructionCompletes (.prefixCb op2) s
  exact ⟨extendedInstr op2, t, rfl, (exec_extendedInstr op2 s).trans ht, ht⟩

/-- Settles O40: each instruction is one shared operation (`exec_eq_run`), whose next state is written out. -/
theorem systemInstructions : Obligations.SystemInstructions :=
  fun s => ⟨exec_eq_run .nop s, exec_eq_run .stop s, exec_eq_run .halt s, exec_eq_run .di s, exec_eq_run .ei s,
    fun op => exec_eq_run (.undefined op) s⟩

end Sys2Proof.Machine

namespace Sys2Proof.Machine

/-! The helpers `add8` and `sub8` (O23) -/

/-- The mask of the half-carry formulas takes the low nibble (43_alu8.md R170, R171). -/
theorem toNat_and_lowNibble (v : Byte) : (v &&& 0x0F).toNat = v.toNat % 16 :=
  (BitVec.toNat_and ..).trans (Nat.and_two_pow_sub_one_eq_mod v.toNat 4)

/-- The result of `add8` is the sum modulo 256 (R170). -/
theorem add8_res_toNat (a b : Byte) (k : Bool) :
    (add8 a b k).res.toNat = (a.toNat + b.toNat + k.toNat) % 256 := rfl

/-- The half-carry of `add8` is the carry out of the low nibbles (R170). -/
theorem add8_h (a b : Byte) (k : Bool) :
    (add8 a b k).h = decide ((a &&& 0x0F).toNat + (b &&& 0x0F).toNat + k.toNat > 0x0F) := by
  rw [toNat_and_lowNibble, toNat_and_lowNibble]
  rfl

/-- The carry of `add8` is the carry out of the bytes (R170). -/
theorem add8_c (a b : Byte) (k : Bool) : (add8 a b k).c = decide (a.toNat + b.toNat + k.toNat > 0xFF) := rfl

/-- The result of `sub8` is the difference modulo 256 (R171). -/
theorem sub8_res_toNat (a b : Byte) (k : Bool) :
    (sub8 a b k).res.toNat = (a.toNat + 512 - b.toNat - k.toNat) % 256 := rfl

/-- The half-carry of `sub8` is the borrow of the low nibbles (R171). -/
theorem sub8_h (a b : Byte) (k : Bool) :
    (sub8 a b k).h = decide ((a &&& 0x0F).toNat < (b &&& 0x0F).toNat + k.toNat) := by
  rw [toNat_and_lowNibble, toNat_and_lowNibble]
  rfl

/-- The carry of `sub8` is the borrow of the bytes (R171). -/
theorem sub8_c (a b : Byte) (k : Bool) : (sub8 a b k).c = decide (a.toNat < b.toNat + k.toNat) := rfl

/-- Each of the eight operations sets Z from its result (R170, R171, R185 to R193). -/
theorem aluResult_z (o : AluOp) (a v : Byte) (carry : Bool) :
    (aluResult o a v carry).z = decide ((aluResult o a v carry).res = 0) := by
  cases o <;> rfl

/-- Settles O23: the flags of the helpers are decisions about the sums and differences. -/
theorem additionAndSubtractionHelpers : Obligations.AdditionAndSubtractionHelpers := by
  intro a b k
  have hz : (add8 a b k).z = true ↔ (a.toNat + b.toNat + k.toNat) % 256 = 0 := by
    rw [← add8_res_toNat]
    exact decide_eq_true_iff.trans BitVec.toNat_inj.symm
  rw [add8_h, add8_c, sub8_h, sub8_c]
  exact ⟨add8_res_toNat a b k, hz, decide_eq_true_iff, decide_eq_true_iff, sub8_res_toNat a b k,
    decide_eq_true_iff, decide_eq_true_iff, decide_eq_true_iff⟩

/-! The eight binary operations (O42 to O45) -/

section
variable {o : AluOp} {i : Instr} {s s1 : State} {v : Byte}

/-- All three source forms run the operation on the source value, in the state once it has been read (R172). -/
theorem exec_of_aluSource (h : AluSource o i s v s1) : exec i s = .next (aluOnA o v s1) := by
  rcases h with ⟨r, rfl, rfl, rfl⟩ | ⟨rfl, rfl, rfl⟩ | ⟨n, rfl, rfl, rfl⟩
  · exact exec_alu o (.reg r) s1
  · exact exec_alu o .atHL s
  · exact exec_aluN o v s1

/-- Reading the source is at most one bus read at HL. -/
theorem AluSource.read (h : AluSource o i s v s1) : s1 = s ∨ s1 = s.readAt s.hl := by
  rcases h with ⟨-, -, -, hs⟩ | ⟨-, -, hs⟩ | ⟨-, -, -, hs⟩
  · exact .inl hs
  · exact .inr hs
  · exact .inl hs

/-- Reading the source leaves A as it was. -/
theorem AluSource.a_eq (h : AluSource o i s v s1) : s1.a = s.a := by
  rcases h.read with rfl | rfl <;> rfl

/-- Reading the source leaves the carry as it was. -/
theorem AluSource.flagC_eq (h : AluSource o i s v s1) : s1.flagC = s.flagC := by
  rcases h.read with rfl | rfl <;> rfl

/-- Reading the source changes no byte of the reference bus. -/
theorem AluSource.memoryKept (h : AluSource o i s v s1) : MemoryKept s s1 := by
  rcases h.read with rfl | rfl
  · exact fun _ _ _ _ => rfl
  · exact memoryKept_readAt s s.hl

/-- What every operation but CP does: A takes the result, Z is set from it, N, H and C are the operation's (R173 to
R193). -/
theorem exec_aluSource_of_ne_cp {x : AluResult} (h : AluSource o i s v s1) (ho : o ≠ .cp)
    (hx : aluResult o s.a v s.flagC = x) :
    ∃ t, exec i s = .next t ∧ t.a = x.res ∧ t.FlagsAre (decide (t.a = 0)) (aluN o) x.h x.c ∧
      t = { s1 with a := t.a, f := t.f } ∧ MemoryKept s t := by
  rw [← h.a_eq, ← h.flagC_eq] at hx
  have ha : (aluOnA o v s1).a = x.res := (if_neg ho).trans (congrArg _ hx)
  refine ⟨_, exec_of_aluSource h, ha, ?_, rfl, h.memoryKept.congr_bus rfl⟩
  rw [ha, ← hx, ← aluResult_z]
  exact flagsAre_setFlags ..

/-- What CP does: the flags are the operation's, and A stays (R194 to R196). -/
theorem exec_aluSource_cp (h : AluSource .cp i s v s1) :
    ∃ t, exec i s = .next t ∧
      t.FlagsAre (sub8 s.a v false).z true (sub8 s.a v false).h (sub8 s.a v false).c ∧
      t = { s1 with f := t.f } ∧ MemoryKept s t := by
  refine ⟨_, exec_of_aluSource h, ?_, rfl, h.memoryKept.congr_bus rfl⟩
  rw [← h.a_eq]
  exact flagsAre_setFlags ..

end

/-- Settles O42: ADD and ADC are `add8` with carry-in 0 or the carry flag. -/
theorem addAndAdc : Obligations.AddAndAdc := by
  intro s s1 i v o cin hsrc hop
  obtain ⟨k, rfl, hx, ho, hn⟩ :
      ∃ k : Bool, cin = k.toNat ∧ aluResult o s.a v s.flagC = add8 s.a v k ∧ o ≠ .cp ∧ aluN o = false := by
    rcases hop with ⟨rfl, rfl⟩ | ⟨rfl, rfl⟩
    · exact ⟨false, rfl, rfl, nofun, rfl⟩
    · exact ⟨s.flagC, rfl, rfl, nofun, rfl⟩
  obtain ⟨t, hexec, ha, hflags, hframe, hmem⟩ := exec_aluSource_of_ne_cp hsrc ho hx
  rw [hn, add8_h, add8_c] at hflags
  exact ⟨t, hexec, ha ▸ add8_res_toNat s.a v k, hflags, hframe, hmem⟩

/-- Settles O43: SUB and SBC are `sub8` with borrow-in 0 or the carry flag. -/
theorem subAndSbc : Obligations.SubAndSbc := by
  intro s s1 i v o bin hsrc hop
  obtain ⟨k, rfl, hx, ho, hn⟩ :
      ∃ k : Bool, bin = k.toNat ∧ aluResult o s.a v s.flagC = sub8 s.a v k ∧ o ≠ .cp ∧ aluN o = true := by
    rcases hop with ⟨rfl, rfl⟩ | ⟨rfl, rfl⟩
    · exact ⟨false, rfl, rfl, nofun, rfl⟩
    · exact ⟨s.flagC, rfl, rfl, nofun, rfl⟩
  obtain ⟨t, hexec, ha, hflags, hframe, hmem⟩ := exec_aluSource_of_ne_cp hsrc ho hx
  rw [hn, sub8_h, sub8_c] at hflags
  exact ⟨t, hexec, ha ▸ sub8_res_toNat s.a v k, hflags, hframe, hmem⟩

/-- A difference without borrow-in is 0 exactly for equal bytes (43_alu8.md R194). -/
theorem sub8_false_z (a b : Byte) : (sub8 a b false).z = decide (a = b) := by
  have ha := a.isLt
  have hb := b.isLt
  have hdiff : (a.toNat + 512 - b.toNat) % 256 = 0 ↔ a.toNat = b.toNat := by omega
  have hres : (sub8 a b false).res.toNat = 0 ↔ a.toNat = b.toNat := hdiff
  exact decide_eq_decide.mpr (BitVec.toNat_inj.symm.trans (hres.trans BitVec.toNat_inj))

/-- Settles O44: the flags of CP are those of `sub8` without borrow-in. -/
theorem compareKeepsA : Obligations.CompareKeepsA := by
  intro s s1 i v hsrc
  obtain ⟨t, hexec, hflags, hframe, hmem⟩ := exec_aluSource_cp hsrc
  rw [sub8_false_z, sub8_h, sub8_c] at hflags
  exact ⟨t, hexec, hflags, hframe, hmem⟩

/-- Settles O45: the result is bit by bit, and the three operations differ in the function and in H. -/
theorem logicOperations : Obligations.LogicOperations := by
  intro s s1 i v o g hf hsrc hop
  obtain ⟨w, hx, hw, ho, hn⟩ : ∃ w : Byte,
      aluResult o s.a v s.flagC = { res := w, z := decide (w = 0), h := hf, c := false } ∧
        (∀ j, w.getLsbD j = g (s.a.getLsbD j) (v.getLsbD j)) ∧ o ≠ .cp ∧ aluN o = false := by
    rcases hop with ⟨rfl, rfl, rfl⟩ | ⟨rfl, rfl, rfl⟩ | ⟨rfl, rfl, rfl⟩
    · exact ⟨_, rfl, fun _ => BitVec.getLsbD_and, nofun, rfl⟩
    · exact ⟨_, rfl, fun _ => BitVec.getLsbD_xor, nofun, rfl⟩
    · exact ⟨_, rfl, fun _ => BitVec.getLsbD_or, nofun, rfl⟩
  obtain ⟨t, hexec, ha, hflags, hframe, hmem⟩ := exec_aluSource_of_ne_cp hsrc ho hx
  rw [hn] at hflags
  exact ⟨t, hexec, ha ▸ hw, hflags, hframe, hmem⟩

/-! INC and DEC (O46, O47) -/

/-- A step down by one, as a number (R199). -/
theorem sub_one_toNat (v : Byte) : (v - 1).toNat = (v.toNat + 255) % 256 := by
  rw [BitVec.toNat_sub, Nat.add_comm]
  rfl

/-- The flags and a register are written independently. -/
theorem setFlags_setReg (s : State) (r : Reg8) (w : Byte) (z n h c : Bool) :
    (s.setReg r w).setFlags z n h c = (s.setFlags z n h c).setReg r w := by
  cases r <;> rfl

/-- A write of a register and then of the flags, as the statements say it. -/
theorem regWritten_setFlags_setReg (s : State) (r : Reg8) (w : Byte) (z n h c : Bool) :
    RegWritten { s with f := ((s.setReg r w).setFlags z n h c).f } ((s.setReg r w).setFlags z n h c) r w := by
  rw [setFlags_setReg, setReg_f]
  exact regWritten_setReg (s.setFlags z n h c) r w

/-- Settles O46: INC and DEC write the register and then the flags. -/
theorem incDecRegister : Obligations.IncDecRegister := by
  intro s r
  rw [toNat_and_lowNibble]
  exact
    ⟨⟨_, s.reg r + 1, exec_inc8 (.reg r) s, BitVec.toNat_add _ 1, regWritten_setFlags_setReg .., flagsAre_setFlags ..⟩,
      _, s.reg r - 1, exec_dec8 (.reg r) s, sub_one_toNat _, regWritten_setFlags_setReg .., flagsAre_setFlags ..⟩

/-- A read at HL, a write at HL and then the flags: the two transactions and F are all that changes. -/
theorem setFlags_writeSel_atHL (s : State) (w : Byte) (z n h c : Bool) :
    (writeSel .atHL w s.afterReadAtHL).setFlags z n h c =
      { s.transact [.read s.hl (s.byteAt s.hl), .write s.hl w] with
        f := ((writeSel .atHL w s.afterReadAtHL).setFlags z n h c).f } := by
  rw [setFlags_eq, writeSel, busWrite, hl_afterReadAtHL, State.afterReadAtHL, State.readAt, transact_transact]
  rfl

/-- On the reference bus the read leaves memory as it was, and the write is one of the new byte at HL. -/
theorem memoryAfterWrite_setFlags_writeSel_atHL (s : State) (w : Byte) (z n h c : Bool) :
    MemoryAfterWrite s ((writeSel .atHL w s.afterReadAtHL).setFlags z n h c) s.hl w :=
  memoryAfterReadWrite s _ s.hl s.hl (s.byteAt s.hl) w (by rw [setFlags_writeSel_atHL]; rfl)

/-- Settles O47: INC and DEC read the byte at HL, write it back and then write the flags. -/
theorem incDecAtHL : Obligations.IncDecAtHL := by
  rintro s v rfl
  rw [toNat_and_lowNibble]
  exact
    ⟨⟨_, s.byteAt s.hl + 1, exec_inc8 .atHL s, BitVec.toNat_add _ 1, setFlags_writeSel_atHL ..,
        memoryAfterWrite_setFlags_writeSel_atHL s _ _ _ _ _, flagsAre_setFlags ..⟩,
      _, s.byteAt s.hl - 1, exec_dec8 .atHL s, sub_one_toNat _, setFlags_writeSel_atHL ..,
        memoryAfterWrite_setFlags_writeSel_atHL s _ _ _ _ _, flagsAre_setFlags ..⟩

/-! CPL, SCF, CCF (O50) -/

/-- The complement of a byte, as a number (R202). -/
theorem complement_toNat (v : Byte) : (v ^^^ 0xFF).toNat = 255 - v.toNat := by
  calc (v ^^^ 0xFF).toNat = (~~~v).toNat := congrArg BitVec.toNat BitVec.xor_allOnes
    _ = 255 - v.toNat := BitVec.toNat_not

/-- Settles O50: each of the three sets the flags, CPL on the complemented A. -/
theorem complementAndCarryFlags : Obligations.ComplementAndCarryFlags := fun s =>
  ⟨⟨_, exec_eq_run .cpl s, complement_toNat s.a, flagsAre_setFlags .., rfl⟩,
    ⟨_, exec_eq_run .scf s, flagsAre_setFlags .., rfl⟩, _, exec_eq_run .ccf s, flagsAre_setFlags .., rfl⟩

/-! DAA (O48, O49) -/

/-- The low and the high part of the correction, each applied or not. -/
def correctionByte (low high : Bool) : Byte := (if low then 0x06 else 0x00) ||| (if high then 0x60 else 0x00)

/-- The two parts share no bit, so that their union is their sum. -/
theorem correctionByte_toNat (low high : Bool) :
    (correctionByte low high).toNat = (if low = true then 0x06 else 0) + (if high = true then 0x60 else 0) := by
  revert low high
  decide

/-- The carry of DAA is the high part (R201). -/
theorem correctionByte_and_high (low high : Bool) :
    decide (correctionByte low high &&& 0x60 ≠ 0) = decide ((correctionByte low high).toNat ≥ 0x60) := by
  revert low high
  decide

/-- The correction byte has its low part after a half-carry or a low digit above 9, its high part after a carry or an A
above 0x99 (R201). -/
theorem daaCorrection_eq (a : Byte) (n h c : Bool) :
    daaCorrection a n h c =
      correctionByte (h || (!n && decide (a.toNat % 16 > 0x09))) (c || (!n && decide (a.toNat > 0x99))) := rfl

/-- The correction byte is the correction of R201 as a number. -/
theorem daaCorrection_toNat (a : Byte) (n h c : Bool) :
    (daaCorrection a n h c).toNat = correctionValue a.toNat n h c := by
  rw [daaCorrection_eq, correctionByte_toNat]
  simp only [correctionValue, Bool.or_eq_true, Bool.and_eq_true, Bool.not_eq_true', decide_eq_true_eq]

/-- The carry of DAA says that the correction is 0x60 or more (R201). -/
theorem daaCarry_eq (a : Byte) (n h c : Bool) :
    daaCarry a n h c = decide (correctionValue a.toNat n h c ≥ 0x60) := by
  rw [← daaCorrection_toNat, daaCarry, daaCorrection_eq]
  exact correctionByte_and_high ..

/-- A after DAA: the correction is added, or subtracted after a subtraction, modulo 256 (R201). -/
theorem daaResult_toNat (a : Byte) (n h c : Bool) :
    (daaResult a n h c).toNat =
      (if n = true then a.toNat + 256 - correctionValue a.toNat n h c
        else a.toNat + correctionValue a.toNat n h c) % 256 := by
  have hcorr := (daaCorrection a n h c).isLt
  rw [← daaCorrection_toNat]
  cases n with
  | false => exact BitVec.toNat_add ..
  | true =>
    refine (BitVec.toNat_sub ..).trans ?_
    rw [if_pos rfl]
    omega

/-- Settles O48: `daaResult_toNat` and `daaCarry_eq`. (`decimalAdjust` itself is the model's operation.) -/
theorem decimalAdjust_completes : Obligations.DecimalAdjust := by
  rintro s _ rfl
  refine ⟨_, exec_eq_run .daa s, daaResult_toNat .., ?_, rfl⟩
  rw [← daaCarry_eq]
  exact flagsAre_setFlags ..

/-- After an addition the correction depends on the sums themselves: the low part on the digits' sum exceeding 9, the high
part on the whole sum exceeding 0x99. -/
theorem correctionValue_after_add {a n k : Nat} (hk : k ≤ 1) :
    correctionValue ((a + n + k) % 256) false (decide (a % 16 + n % 16 + k > 0x0F)) (decide (a + n + k > 0xFF)) =
      (if a % 16 + n % 16 + k > 9 then 0x06 else 0) + (if a + n + k > 0x99 then 0x60 else 0) := by
  have hlow : (a % 16 + n % 16 + k > 0x0F ∨ (a + n + k) % 256 % 16 > 9) ↔ a % 16 + n % 16 + k > 9 := by omega
  have hhigh : (a + n + k > 0xFF ∨ (a + n + k) % 256 > 0x99) ↔ a + n + k > 0x99 := by omega
  simp only [correctionValue, decide_eq_true_eq, true_and, hlow, hhigh]

/-- After a subtraction the correction depends on the two borrows alone (R201). -/
theorem correctionValue_after_sub (a : Nat) (p q : Prop) [Decidable p] [Decidable q] :
    correctionValue a true (decide p) (decide q) = (if p then 0x06 else 0) + (if q then 0x60 else 0) := by
  simp only [correctionValue, decide_eq_true_eq, Bool.true_eq_false, false_and, or_false]

/-- A correction of 0x60 or more is one with the high part: the carry of DAA, as a number. -/
theorem toNat_decide_correction_ge (p q : Prop) [Decidable p] [Decidable q] :
    (decide ((if p then 0x06 else 0) + (if q then 0x60 else 0) ≥ 0x60)).toNat = if q then 1 else 0 := by
  by_cases hq : q
  · simp [hq]
  · by_cases hp : p <;> simp [hp, hq]

/-- The corrected sum `r` of two packed-decimal bytes is packed-decimal and is their decimal sum: the low part carries ten
ones into the tens, and the high part is the hundred. -/
theorem decimal_sum {a n r : Byte} {k : Nat} (ha : IsBcd a) (hn : IsBcd n) (hk : k ≤ 1)
    (hr : r.toNat = ((a.toNat + n.toNat + k) % 256 +
      ((if a.toNat % 16 + n.toNat % 16 + k > 9 then 0x06 else 0) +
        (if a.toNat + n.toNat + k > 0x99 then 0x60 else 0))) % 256) :
    IsBcd r ∧
      bcdValue r + 100 * (if a.toNat + n.toNat + k > 0x99 then 1 else 0) = bcdValue a + bcdValue n + k := by
  unfold IsBcd bcdValue at *
  by_cases hhigh : a.toNat + n.toNat + k > 0x99
  · rw [if_pos hhigh] at hr ⊢
    split at hr <;> omega
  · rw [if_neg hhigh] at hr ⊢
    split at hr <;> omega

/-- The corrected difference `r` of two packed-decimal bytes is packed-decimal and is their decimal difference: the low
part borrows ten ones from the tens, and the high part is the hundred borrowed. -/
theorem decimal_difference {a n r : Byte} {k : Nat} (ha : IsBcd a) (hn : IsBcd n) (hk : k ≤ 1)
    (hr : r.toNat = ((a.toNat + 512 - n.toNat - k) % 256 + 256 -
      ((if a.toNat % 16 < n.toNat % 16 + k then 0x06 else 0) +
        (if a.toNat < n.toNat + k then 0x60 else 0))) % 256) :
    IsBcd r ∧ bcdValue r + bcdValue n + k = bcdValue a + 100 * (if a.toNat < n.toNat + k then 1 else 0) := by
  unfold IsBcd bcdValue at *
  by_cases hhigh : a.toNat < n.toNat + k
  · rw [if_pos hhigh] at hr ⊢
    split at hr <;> omega
  · rw [if_neg hhigh] at hr ⊢
    split at hr <;> omega

/-- Settles O49: the corrections after ADC and SBC are those of `decimal_sum` and `decimal_difference`. -/
theorem decimalAdjustAddsDecimals : Obligations.DecimalAdjustAddsDecimals := by
  intro s n ha hn
  have hk : s.flagC.toNat ≤ 1 := Bool.toNat_le _
  have hsrc (o : AluOp) : AluSource o (.aluN o n) s n s := .inr (.inr ⟨n, rfl, rfl, rfl⟩)
  constructor
  · obtain ⟨t, hadc, hta, ⟨-, hN, hH, hC, -⟩, -⟩ := addAndAdc s s _ n .adc _ (hsrc _) (.inr ⟨rfl, rfl⟩)
    obtain ⟨u, hdaa, hua, ⟨-, -, -, huC, -⟩, -⟩ := decimalAdjust_completes t _ rfl
    rw [toNat_and_lowNibble, toNat_and_lowNibble] at hH
    rw [hN, hH, hC, hta, correctionValue_after_add hk] at hua huC
    refine ⟨t, u, hadc, hdaa, ?_⟩
    rw [huC, toNat_decide_correction_ge]
    exact decimal_sum ha hn hk hua
  · obtain ⟨t, hsbc, hta, ⟨-, hN, hH, hC, -⟩, -⟩ := subAndSbc s s _ n .sbc _ (hsrc _) (.inr ⟨rfl, rfl⟩)
    obtain ⟨u, hdaa, hua, ⟨-, -, -, huC, -⟩, -⟩ := decimalAdjust_completes t _ rfl
    rw [toNat_and_lowNibble, toNat_and_lowNibble] at hH
    rw [hN, hH, hC, hta, correctionValue_after_sub] at hua huC
    refine ⟨t, u, hsbc, hdaa, ?_⟩
    rw [huC, toNat_decide_correction_ge]
    exact decimal_difference ha hn hk hua

end Sys2Proof.Machine

namespace Sys2Proof.Machine

/-! The 16-bit arithmetic (O24, O51, O52) -/

/-- Settles O24: the two flags are bits 4 and 8 by definition, and `spoff_h` and `spoff_c` say which carries these are. -/
theorem signedOffsetHelper : Obligations.SignedOffsetHelper := by
  intro sp e
  have hhalf : (spoff sp e).h = true ↔ sp.toNat % 16 + e.toNat % 16 > 0x0F := by
    rw [spoff_h]
    exact decide_eq_true_iff
  have hcarry : (spoff sp e).c = true ↔ sp.toNat % 256 + e.toNat > 0xFF := by
    rw [spoff_c]
    exact decide_eq_true_iff
  exact ⟨spoff_res_toNat sp e, rfl, rfl, hhalf, hcarry⟩

/-- The mask of the half-carry of ADD HL,rr takes the low twelve bits (44_alu16.md R210). -/
theorem toNat_and_lowTwelve (w : Word) : (w &&& 0x0FFF).toNat = w.toNat % 4096 :=
  (BitVec.toNat_and ..).trans (Nat.and_two_pow_sub_one_eq_mod w.toNat 12)

/-- The half-carry of ADD HL,rr is the carry out of the low twelve bits (R210). -/
theorem addHalfCarry16_eq (a b : Word) :
    addHalfCarry16 a b = decide ((a &&& 0x0FFF).toNat + (b &&& 0x0FFF).toNat > 0x0FFF) := by
  rw [toNat_and_lowTwelve, toNat_and_lowTwelve]
  rfl

/-- Settles O51: HL takes the sum and then the flags are set, of which Z is the one before. (`addPairToHL` itself is the
model's operation.) -/
theorem addPairToHL_completes : Obligations.AddPairToHL := by
  intro s p
  refine ⟨_, exec_addHL p s, hl_setHL_add_toNat s s (s.pair p), ?_, rfl⟩
  rw [← addHalfCarry16_eq]
  exact flagsAre_setFlags ..

/-- What INC rr and DEC rr do: the pair moves by `delta`, wrapping at 65536 (R211, R212). -/
theorem addToPair_spec (p : Pair) (delta : Word) (s : State) :
    ∃ t w, addToPair p delta s = .next t ∧ w.toNat = ((s.pair p).toNat + delta.toNat) % 65536 ∧
      PairWritten s t p w :=
  ⟨_, s.pair p + delta, rfl, BitVec.toNat_add .., pairWritten_setPair s p _⟩

/-- Settles O52: both are `addToPair`, INC by 1 and DEC by -1, which is 65535 as a number. -/
theorem incDecPair : Obligations.IncDecPair := by
  intro s p
  rw [exec_incPair, exec_decPair]
  exact ⟨addToPair_spec p 1 s, addToPair_spec p (-1) s⟩

end Sys2Proof.Machine

namespace Sys2Proof.Machine

/-! Rotates, shifts and bits (O53 to O56) -/

/-- Two bytes that share no bit, the one a multiple of `2 ^ i` and the other below it, join to their sum. -/
theorem or_toNat_of_dvd_of_lt {x y : Byte} {i : Nat} (hx : 2 ^ i ∣ x.toNat) (hy : y.toNat < 2 ^ i) :
    (x ||| y).toNat = x.toNat + y.toNat := by
  obtain ⟨k, hk⟩ := hx
  rw [BitVec.toNat_or, hk, Nat.two_pow_add_eq_or_of_lt hy]

/-- A shift to the left by `i` is a multiplication by `2 ^ i`, modulo 256. -/
theorem shiftLeft_toNat (v : Byte) (i : Nat) : (v <<< i).toNat = v.toNat * 2 ^ i % 256 := by
  rw [BitVec.toNat_shiftLeft, Nat.shiftLeft_eq]

/-- A shift to the right by `i` is a division by `2 ^ i`. -/
theorem shiftRight_toNat (v : Byte) (i : Nat) : (v >>> i).toNat = v.toNat / 2 ^ i := by
  rw [BitVec.toNat_ushiftRight, Nat.shiftRight_eq_div_pow]

/-- A bit of a byte is one binary digit of its number. -/
theorem getLsbD_eq_decide (v : Byte) (i : Nat) : v.getLsbD i = decide (v.toNat / 2 ^ i % 2 = 1) :=
  Nat.testBit_eq_decide_div_mod_eq

/-- A bit of a byte, as a number. -/
theorem getLsbD_toNat (v : Byte) (i : Nat) : (v.getLsbD i).toNat = v.toNat / 2 ^ i % 2 := Nat.toNat_testBit ..

theorem boolByte_toNat (q : Bool) : (boolByte q).toNat = q.toNat := by
  cases q <;> rfl

theorem boolByte_shiftLeft_seven_toNat (q : Bool) : (boolByte q <<< 7).toNat = 128 * q.toNat := by
  cases q <;> rfl

/-- A left shift with `q` moved in at bit 0 (45_rotate_shift_bit.md R220). -/
theorem shiftLeft_one_or_boolByte_toNat (v : Byte) (q : Bool) :
    (v <<< 1 ||| boolByte q).toNat = 2 * v.toNat % 256 + q.toNat := by
  have hq := q.toNat_lt
  rw [or_toNat_of_dvd_of_lt (i := 1), shiftLeft_toNat, boolByte_toNat]
  · omega
  · rw [shiftLeft_toNat]
    omega
  · rwa [boolByte_toNat]

/-- A right shift with `q` moved in at bit 7 (R220). -/
theorem shiftRight_one_or_boolByte_toNat (v : Byte) (q : Bool) :
    (v >>> 1 ||| boolByte q <<< 7).toNat = v.toNat / 2 + 128 * q.toNat := by
  have hv := v.isLt
  rw [BitVec.or_comm, or_toNat_of_dvd_of_lt (i := 7), shiftRight_toNat, boolByte_shiftLeft_seven_toNat]
  · omega
  · rw [boolByte_shiftLeft_seven_toNat]
    omega
  · rw [shiftRight_toNat]
    omega

/-- The sign bit in its place, which SRA keeps. -/
theorem and_signBit (v : Byte) : v &&& (0x80 : Byte) = boolByte (v.getLsbD 7) <<< 7 := by
  refine (BitVec.and_twoPow v 7).trans ?_
  cases v.getLsbD 7 <;> rfl

/-- The low nibble moved up, which SWAP masks, has nothing to mask away. -/
theorem shiftLeft_four_and_highNibble (v : Byte) : v <<< 4 &&& (0xF0 : Byte) = v <<< 4 := by
  rw [show (0xF0 : Byte) = BitVec.allOnes 8 <<< 4 from rfl, ← BitVec.shiftLeft_and_distrib, BitVec.and_allOnes]

/-- The nibbles exchanged (R220). -/
theorem swapNibbles_toNat (v : Byte) :
    ((v <<< 4 &&& (0xF0 : Byte)) ||| v >>> 4).toNat = v.toNat % 16 * 16 + v.toNat / 16 := by
  have hv := v.isLt
  rw [shiftLeft_four_and_highNibble, or_toNat_of_dvd_of_lt (i := 4), shiftLeft_toNat, shiftRight_toNat]
  · omega
  · rw [shiftLeft_toNat]
    omega
  · rw [shiftRight_toNat]
    omega

/-- The shifted byte is the result column of R220. -/
theorem rotByte_toNat (k : RotKind) (v : Byte) (cin : Bool) :
    (rotByte k v cin).toNat = rotatedValue k v.toNat cin.toNat := by
  have hv := v.isLt
  have hbit7 : (v.getLsbD 7).toNat = v.toNat / 128 := by
    rw [getLsbD_toNat]
    omega
  have hbit0 : (v.getLsbD 0).toNat = v.toNat % 2 := by
    rw [getLsbD_toNat, Nat.pow_zero, Nat.div_one]
  cases k with
  | rlc => exact (shiftLeft_one_or_boolByte_toNat v _).trans (congrArg _ hbit7)
  | rrc => exact (shiftRight_one_or_boolByte_toNat v _).trans (congrArg (_ + 128 * ·) hbit0)
  | rl => exact shiftLeft_one_or_boolByte_toNat v cin
  | rr => exact shiftRight_one_or_boolByte_toNat v cin
  | sla => exact (shiftLeft_toNat v 1).trans (congrArg (· % 256) (Nat.mul_comm ..))
  | sra =>
    rw [rotByte, and_signBit, shiftRight_one_or_boolByte_toNat, hbit7]
    rfl
  | swap => exact swapNibbles_toNat v
  | srl => exact shiftRight_toNat v 1

/-- The carry out is the bit shifted out, as R220 has it. -/
theorem rotCarry_eq (k : RotKind) (v : Byte) : rotCarry k v = shiftedOut k v.toNat := by
  have hv := v.isLt
  have hbit7 : v.getLsbD 7 = decide (v.toNat / 128 = 1) := by
    rw [getLsbD_eq_decide, decide_eq_decide]
    omega
  have hbit0 : v.getLsbD 0 = decide (v.toNat % 2 = 1) := by
    rw [getLsbD_eq_decide, Nat.pow_zero, Nat.div_one]
  cases k with
  | rlc | rl | sla => exact hbit7
  | rrc | rr | sra | srl => exact hbit0
  | swap => rfl

/-- The flags of a rotate or shift, set on any state: N and H are 0 (R220). -/
theorem flagsAre_rotCarry (t : State) (z : Bool) (k : RotKind) (v : Byte) :
    (t.setFlags z false false (rotCarry k v)).FlagsAre z false false (shiftedOut k v.toNat) := by
  rw [← rotCarry_eq]
  exact flagsAre_setFlags ..

/-- What an accumulator rotate does (R221 to R224). -/
theorem rotateA_spec (k : RotKind) (s : State) :
    ∃ t, rotateA k s = .next t ∧ t.a.toNat = rotatedValue k s.a.toNat s.flagC.toNat ∧
      t.FlagsAre false false false (shiftedOut k s.a.toNat) ∧ t = { s with a := t.a, f := t.f } :=
  ⟨_, rfl, rotByte_toNat k s.a s.flagC, flagsAre_rotCarry .., rfl⟩

/-- Settles O53: each of the four is `rotateA` at its kind. -/
theorem accumulatorRotates : Obligations.AccumulatorRotates := by
  intro s
  simp only [List.forall_mem_cons]
  exact ⟨rotateA_spec .rlc s, rotateA_spec .rrc s, rotateA_spec .rl s, rotateA_spec .rr s, List.forall_mem_nil _⟩

/-- Settles O54: the selected operand takes the shifted byte and then the flags are set, as for INC and DEC. -/
theorem rotatesAndShifts : Obligations.RotatesAndShifts := fun s k =>
  ⟨fun r => ⟨_, _, exec_rotate k (.reg r) s, rotByte_toNat k (s.reg r) s.flagC, regWritten_setFlags_setReg ..,
      flagsAre_rotCarry ..⟩,
    _, _, exec_rotate k .atHL s, rotByte_toNat k (s.byteAt s.hl) s.flagC, setFlags_writeSel_atHL ..,
    memoryAfterWrite_setFlags_writeSel_atHL s _ _ _ _ _, flagsAre_rotCarry ..⟩

/-- A bit is clear exactly if it is 0 as a number. -/
theorem not_getLsbD_eq (v : Byte) (i : Nat) : (!v.getLsbD i) = decide (v.toNat / 2 ^ i % 2 = 0) := by
  rw [← getLsbD_toNat]
  cases v.getLsbD i <;> rfl

/-- The flags of BIT, set on any state (R241). -/
theorem flagsAre_testBit (t : State) (v : Byte) (i : Nat) (c : Bool) :
    (t.setFlags (!v.getLsbD i) false true c).FlagsAre (decide (v.toNat / 2 ^ i % 2 = 0)) false true c := by
  rw [← not_getLsbD_eq]
  exact flagsAre_setFlags ..

/-- Settles O55: BIT sets the flags in the state that the read of its operand leaves. -/
theorem bitTests : Obligations.BitTests := fun s b =>
  ⟨fun r => ⟨_, exec_bit b (.reg r) s, flagsAre_testBit .., rfl⟩,
    _, exec_bit b .atHL s, flagsAre_testBit .., rfl, (memoryKept_readAt s s.hl).congr_bus rfl⟩

theorem bitMask_eq_twoPow : ∀ b : Fin 8, bitMask b = BitVec.twoPow 8 b.val := by decide

/-- The mask of RES and SET has its bit alone set. -/
theorem getLsbD_bitMask (b : Fin 8) (j : Nat) : (bitMask b).getLsbD j = decide (j = b.val) := by
  rw [bitMask_eq_twoPow, BitVec.getLsbD_twoPow, decide_eq_true b.isLt, Bool.true_and]
  exact decide_eq_decide.mpr eq_comm

/-- RES clears the selected bit and keeps the others (R243). -/
theorem getLsbD_and_not_bitMask (v : Byte) (b : Fin 8) (j : Nat) :
    (v &&& (0xFF ^^^ bitMask b)).getLsbD j = if j = b.val then false else v.getLsbD j := by
  have hones : (0xFF : Byte) ^^^ bitMask b = ~~~bitMask b := BitVec.allOnes_xor
  rw [hones, BitVec.getLsbD_and, BitVec.getLsbD_not, getLsbD_bitMask]
  by_cases hj : j = b.val
  · simp [hj]
  · simpa [hj] using BitVec.lt_of_getLsbD

/-- SET sets the selected bit and keeps the others (R245). -/
theorem getLsbD_or_bitMask (v : Byte) (b : Fin 8) (j : Nat) :
    (v ||| bitMask b).getLsbD j = if j = b.val then true else v.getLsbD j := by
  rw [BitVec.getLsbD_or, getLsbD_bitMask]
  by_cases hj : j = b.val <;> simp [hj]

/-- A read at HL and then a write at HL are the two transactions and nothing else. -/
theorem writeSel_atHL_afterReadAtHL (s : State) (w : Byte) :
    writeSel .atHL w s.afterReadAtHL = s.transact [.read s.hl (s.byteAt s.hl), .write s.hl w] :=
  transact_transact s [.read s.hl (s.byteAt s.hl)] [.write s.hl w]

/-- Settles O56: both write the operand back with one bit forced, and differ in how they force it. -/
theorem bitResetsAndSets : Obligations.BitResetsAndSets := by
  intro s b build q hop
  obtain ⟨force, hexec, hforce⟩ : ∃ force : Byte → Byte,
      (∀ i, exec (build b i) s = .next (writeSel i (force (readSel i s).1) (readSel i s).2)) ∧
        ∀ v j, (force v).getLsbD j = if j = b.val then q else v.getLsbD j := by
    rcases hop with ⟨rfl, rfl⟩ | ⟨rfl, rfl⟩
    · exact ⟨(· &&& (0xFF ^^^ bitMask b)), fun i => exec_res b i s, fun v => getLsbD_and_not_bitMask v b⟩
    · exact ⟨(· ||| bitMask b), fun i => exec_set b i s, fun v => getLsbD_or_bitMask v b⟩
  have hHL := hexec .atHL
  rw [readSel_atHL, writeSel_atHL_afterReadAtHL] at hHL
  exact
    ⟨fun r => ⟨_, _, hexec (.reg r), regWritten_setReg s r _, hforce (s.reg r)⟩,
      _, _, hHL, rfl, memoryAfterReadWrite s _ _ _ _ _ rfl, hforce (s.byteAt s.hl)⟩

end Sys2Proof.Machine

namespace Sys2Proof.Machine

/-! Control transfer (O57 to O60) -/

/-- The condition that the instructions test is the one that the statements name (46_control_transfer.md R250). -/
theorem condHolds_iff_condTrue (s : State) (k : Cond) : s.condHolds k = true ↔ s.CondTrue k := by
  cases k with
  | NZ => exact iff_of_eq (Bool.not_eq_true' s.flagZ)
  | Z => exact Iff.rfl
  | NC => exact iff_of_eq (Bool.not_eq_true' s.flagC)
  | C => exact Iff.rfl

/-- An instruction under a condition: its transfer takes place, or nothing changes. -/
theorem exec_of_condTrue_or_not {i : Instr} {s t : State} {k : Cond}
    (h : exec i s = .next (if s.condHolds k then t else s)) :
    (s.CondTrue k → exec i s = .next t) ∧ (¬ s.CondTrue k → exec i s = .next s) := by
  rw [← condHolds_iff_condTrue, h]
  exact ⟨fun htrue => by rw [if_pos htrue], fun hfalse => by rw [if_neg hfalse]⟩

/-- Settles O57: the conditional form is JP nn under its condition. -/
theorem absoluteJumps : Obligations.AbsoluteJumps := fun s nn =>
  ⟨rfl, rfl, fun k => exec_of_condTrue_or_not (exec_jpIf k nn s)⟩

/-- Settles O58: both forms add the extended offset, which `sext16_toNat` gives as a number. -/
theorem relativeJumps : Obligations.RelativeJumps := by
  intro s e target htarget
  obtain rfl : s.pc + sext16 e = target :=
    BitVec.eq_of_toNat_eq (by rw [BitVec.toNat_add, sext16_toNat, htarget])
  exact ⟨rfl, fun k => exec_of_condTrue_or_not (exec_jrIf k e s)⟩

/-- What a call does: the push of PC, with its two bytes named, and the transfer (46_control_transfer.md R256). -/
theorem pushPCAndJump_of_bytes {s : State} {hi lo : Byte} (hpc : s.pc.toNat = hi.toNat * 256 + lo.toNat)
    (target : Word) :
    pushPCAndJump target s =
        { s.transact [.write (s.sp - 1) hi, .write (s.sp - 2) lo] with pc := target, sp := s.sp - 2 } ∧
      MemoryAfterWrites s (pushPCAndJump target s) (s.sp - 1) hi (s.sp - 2) lo := by
  obtain ⟨hpush, hmem, -⟩ := stackPrimitives s s.pc hi lo hpc
  exact ⟨by rw [pushPCAndJump, hpush], hmem⟩

/-- Settles O59: every taken form is `pushPCAndJump` at its target. -/
theorem callsAndRestarts : Obligations.CallsAndRestarts := by
  intro s nn hi lo hpc
  have hcallIf (k : Cond) := exec_of_condTrue_or_not (exec_callIf k nn s)
  refine ⟨fun x hx => ?_, fun k => (hcallIf k).2⟩
  have hexec : exec x.1 s = .next (pushPCAndJump x.2 s) := by
    rcases hx with rfl | ⟨k, htrue, rfl⟩ | ⟨n, rfl⟩
    · rfl
    · exact (hcallIf k).1 htrue
    · exact exec_rst n s
  exact ⟨_, hexec, pushPCAndJump_of_bytes hpc x.2⟩

/-- What a return does: the pop of PC, with the two bytes and the word they make named (R258). -/
theorem popPC_of_bytes {s : State} {lo hi : Byte} {target : Word} (hlo : lo = s.byteAt s.sp)
    (hhi : hi = (s.readAt s.sp).byteAt (s.sp + 1)) (htarget : target.toNat = hi.toNat * 256 + lo.toNat) :
    popPC s = { s.transact [.read s.sp lo, .read (s.sp + 1) hi] with pc := target, sp := s.sp + 2 } := by
  rw [popPC, pop16_spec, ← hlo, ← hhi, ← eq_joinBytes htarget]

/-- Settles O60: each form is `popPC`, RETI with IME set after it. -/
theorem returns : Obligations.Returns := by
  intro s lo hi target hlo hhi htarget u hu
  obtain rfl : popPC s = u := (popPC_of_bytes hlo hhi htarget).trans hu.symm
  exact ⟨(memoryKept_pop16 s).congr_bus rfl, rfl, rfl, fun k => exec_of_condTrue_or_not (exec_retIf k s)⟩

end Sys2Proof.Machine

namespace Sys2Proof.Machine

/-! What a step returns (O16) -/

/-- The first two bytes at PC: the second is read on the bus as the first read leaves it (20_memory.md R57). -/
theorem bytesAtPC_eq_cons (b : State) :
    ∃ b2, b.bytesAtPC = [b.byteAt b.pc, (b.readAt b.pc).byteAt (b.pc + 1), b2] := ⟨_, rfl⟩

/-- The cost of the instruction at PC, by its opcode bytes: the extended table's for an extended instruction, the primary
one's for every other but an undefined opcode (70_reset_and_hazards.md R298). -/
theorem cycleCost_instrBytes {b : State} (hdef : b.byteAt b.pc ∉ undefinedOpcodes) (table : CycleTable) :
    cycleCost table b.instrBytes =
      some (if b.byteAt b.pc = 0xCB then table.extendedCost ((b.readAt b.pc).byteAt (b.pc + 1))
        else table.primaryCost (b.byteAt b.pc)) := by
  by_cases hesc : b.byteAt b.pc = 0xCB
  · obtain ⟨b2, hb⟩ := bytesAtPC_eq_cons b
    have hbytes : b.instrBytes = [0xCB, (b.readAt b.pc).byteAt (b.pc + 1)] := by
      rw [State.instrBytes, hb, hesc]
      rfl
    rw [hbytes, if_pos hesc]
    rfl
  · obtain ⟨rest, hbytes⟩ := instrBytes_eq_cons b
    have hnot : ¬ undefinedOpcodes.contains (b.byteAt b.pc) = true := fun h => hdef (List.contains_iff_mem.mp h)
    rw [hbytes, cycleCost, if_neg (show b.byteAt b.pc ≠ Config.escapeCode from hesc), if_neg hnot, if_neg hesc]

/-- Where the instruction has a cost, the step returns it (42_dispatch_system.md R160). -/
theorem recordCycles_result {bytes : List Byte} {s : State} {k : Nat} (h : cycleCost s.cycles bytes = some k) :
    (recordCycles bytes s).result = .ok k := by
  rw [recordCycles, h]

/-- Settles O16: `step_latches` for the latch, and for the count the cost of the instruction at PC, which is looked up in a
table that no operation changes. -/
theorem onlyUndefinedOpcodesFault : Obligations.OnlyUndefinedOpcodesFault := by
  rintro s _ t _ _ hrun rfl rfl rfl hstep hdef
  refine ⟨Bool.eq_false_iff.mpr (mt (step_latches hrun hstep).faulted.mp hdef), ?_⟩
  obtain ⟨i, x, -, hx, hs⟩ := step_of_running hrun
  cases hs.symm.trans hstep
  have hcycles : x.cycles = s.cycles := (instrOperation i).run_cycles (s := (beginStep s).ready) hx
  rw [recordCycles_result (cycleCost_instrBytes (b := beginStep s) hdef _), hcycles]
  rfl

/-! The default costs (O28): one lemma per form with a selector, a pair or a condition -/

/-- The cost of a form by its selector: one for a register, another for (HL). -/
def selectorCost (i : Sel8) (onReg onHL : Nat) : Nat :=
  match i with
  | .reg _ => onReg
  | .atHL => onHL

theorem instrCost_ld8_reg (d : Reg8) (r : Sel8) : instrCost (.ld8 (.reg d) r) = some (selectorCost r 4 8) := by
  cases d <;> rcases r with ⟨⟨⟩⟩ | _ <;> rfl

theorem instrCost_ld8_atHL (r : Reg8) : instrCost (.ld8 .atHL (.reg r)) = some 8 := by
  cases r <;> rfl

theorem instrCost_ld8n (d : Sel8) (n : Byte) : instrCost (.ld8n d n) = some (selectorCost d 8 12) := by
  rcases d with ⟨⟨⟩⟩ | _ <;> rfl

theorem instrCost_ldPair (p : Pair) (nn : Word) : instrCost (.ldPair p nn) = some 12 := by
  cases p <;> rfl

theorem instrCost_push (p : StackPair) : instrCost (.push p) = some 16 := by
  cases p <;> rfl

theorem instrCost_pop (p : StackPair) : instrCost (.pop p) = some 12 := by
  cases p <;> rfl

theorem instrCost_alu (o : AluOp) (r : Sel8) : instrCost (.alu o r) = some (selectorCost r 4 8) := by
  cases o <;> rcases r with ⟨⟨⟩⟩ | _ <;> rfl

theorem instrCost_aluN (o : AluOp) (n : Byte) : instrCost (.aluN o n) = some 8 := by
  cases o <;> rfl

theorem instrCost_inc8 (d : Sel8) : instrCost (.inc8 d) = some (selectorCost d 4 12) := by
  rcases d with ⟨⟨⟩⟩ | _ <;> rfl

theorem instrCost_dec8 (d : Sel8) : instrCost (.dec8 d) = some (selectorCost d 4 12) := by
  rcases d with ⟨⟨⟩⟩ | _ <;> rfl

theorem instrCost_addHL (p : Pair) : instrCost (.addHL p) = some 8 := by
  cases p <;> rfl

theorem instrCost_incPair (p : Pair) : instrCost (.incPair p) = some 8 := by
  cases p <;> rfl

theorem instrCost_decPair (p : Pair) : instrCost (.decPair p) = some 8 := by
  cases p <;> rfl

theorem instrCost_jpIf (k : Cond) (nn : Word) : instrCost (.jpIf k nn) = some 12 := by
  cases k <;> rfl

theorem instrCost_jrIf (k : Cond) (e : Byte) : instrCost (.jrIf k e) = some 8 := by
  cases k <;> rfl

theorem instrCost_callIf (k : Cond) (nn : Word) : instrCost (.callIf k nn) = some 12 := by
  cases k <;> rfl

theorem instrCost_retIf (k : Cond) : instrCost (.retIf k) = some 8 := by
  cases k <;> rfl

theorem instrCost_rst (n : Fin 8) : instrCost (.rst n) = some 16 := by
  match n with | 0 | 1 | 2 | 3 | 4 | 5 | 6 | 7 => rfl

/-- The default extended table, by the three fields of the byte: (HL) costs 12 for BIT and 16 for the others, and a register 8
(70_reset_and_hazards.md R298). -/
theorem extendedCost_default (r : Sel8) : ∀ (x : Fin 4) (y : Fin 8),
    defaultCycles.extendedCost (BitVec.ofNat 8 (0x40 * x.val + 8 * y.val + selCode r)) =
      selectorCost r 8 (if x = 1 then 12 else 16) := by
  rcases r with ⟨⟨⟩⟩ | _ <;> decide

/-- The cost of an extended instruction is the extended table's, at the byte of its three fields. -/
theorem instrCost_extended {i : Instr} {x : Fin 4} {y : Fin 8} {r : Sel8}
    (h : encode i = [0xCB, BitVec.ofNat 8 (0x40 * x.val + 8 * y.val + selCode r)]) :
    instrCost i = some (selectorCost r 8 (if x = 1 then 12 else 16)) := by
  rw [instrCost, h]
  exact congrArg some (extendedCost_default r x y)

theorem rotCode_lt (k : RotKind) : rotCode k < 8 := by
  cases k <;> decide

theorem instrCost_rotate (k : RotKind) (r : Sel8) : instrCost (.rotate k r) = some (selectorCost r 8 16) :=
  instrCost_extended (x := 0) (y := ⟨rotCode k, rotCode_lt k⟩) (by simpa using encode_rotate k r)

theorem instrCost_bit (b : Fin 8) (r : Sel8) : instrCost (.bit b r) = some (selectorCost r 8 12) :=
  instrCost_extended (x := 1) (encode_bit b r)

theorem instrCost_res (b : Fin 8) (r : Sel8) : instrCost (.res b r) = some (selectorCost r 8 16) :=
  instrCost_extended (x := 2) (encode_res b r)

theorem instrCost_set (b : Fin 8) (r : Sel8) : instrCost (.set b r) = some (selectorCost r 8 16) :=
  instrCost_extended (x := 3) (encode_set b r)

/-- Settles O28: the forms with a selector, a pair or a condition by their lemmas; every other form has one opcode, whose
entry of the default table is read. -/
theorem defaultCycleCosts : Obligations.DefaultCycleCosts := by
  refine ⟨fun d r => instrCost_ld8_reg d (.reg r), fun d => instrCost_ld8n (.reg d),
    fun d => ⟨instrCost_ld8_reg d .atHL, instrCost_ld8_atHL d⟩, instrCost_ld8n .atHL, by decide, by decide,
    fun n => ?immediate8, fun nn => ?immediate16, instrCost_ldPair, fun _ => ⟨rfl, rfl⟩,
    fun p => ⟨instrCost_push p, instrCost_pop p⟩,
    fun o r n => ⟨instrCost_alu o (.reg r), instrCost_alu o .atHL, instrCost_aluN o n⟩,
    fun r => ⟨instrCost_inc8 (.reg r), instrCost_dec8 (.reg r)⟩, ⟨instrCost_inc8 .atHL, instrCost_dec8 .atHL⟩,
    fun p => ⟨instrCost_addHL p, instrCost_incPair p, instrCost_decPair p⟩, fun _ => rfl,
    fun k nn e => ⟨instrCost_jpIf k nn, instrCost_jrIf k e, instrCost_callIf k nn, instrCost_retIf k⟩,
    ⟨rfl, rfl⟩, instrCost_rst,
    fun k b r => ⟨instrCost_rotate k (.reg r), instrCost_bit b (.reg r), instrCost_res b (.reg r),
      instrCost_set b (.reg r)⟩,
    fun k b => ⟨instrCost_rotate k .atHL, instrCost_res b .atHL, instrCost_set b .atHL, instrCost_bit b .atHL⟩⟩
  case immediate8 =>
    simp only [List.forall_mem_cons]
    exact ⟨rfl, rfl, rfl, rfl, List.forall_mem_nil _⟩
  case immediate16 =>
    simp only [List.forall_mem_cons]
    exact ⟨rfl, rfl, rfl, List.forall_mem_nil _⟩

end Sys2Proof.Machine
